-- ==== Sys2Proof/Word.lean ====
section
/-! DEFINITION. The machine's word types (00_scope.md R10, R12). -/

namespace Sys2Proof

/-- A general register, the PC, HI and LO at full width: 64 bits (R10). -/
abbrev Word := BitVec 64

/-- An instruction word, a COP0 register, a 32-bit operand: 32 bits (R10, R200). -/
abbrev Word32 := BitVec 32

/-- A 16-bit immediate field (30_encoding.md R201). -/
abbrev Half := BitVec 16

/-- The smallest addressable unit of memory (20_memory.md R171). -/
abbrev Byte := BitVec 8

/-- The number of a general, COP0 or COP1 register: a 5-bit field (30_encoding.md R202). -/
abbrev Reg := BitVec 5

end Sys2Proof
end

