-- ==== Sys2Proof/Syntax.lean ====
section
/-! DEFINITION. The instructions: one constructor for each row of spec/opcode_table.json, its arguments the row's
fields from the highest bit down (30_encoding.md R201, R202). -/

namespace Sys2Proof

/-- The instructions of the opcode map (30_encoding.md R206 to R212), and the two fixed words of R203. Fields that are
no operand and no decode key are ignored by the machine (R204, R243) and stand nowhere here. -/
inductive Instr where
  -- Integer instructions (41_integer.md).
  /-- `SLL`, rule R325. -/
  | sll (rt rd : Reg) (sa : BitVec 5)
  /-- `SRL`, rule R326. -/
  | srl (rt rd : Reg) (sa : BitVec 5)
  /-- `SRA`, rule R327. -/
  | sra (rt rd : Reg) (sa : BitVec 5)
  /-- `SLLV`, rule R328. -/
  | sllv (rs rt rd : Reg)
  /-- `SRLV`, rule R329. -/
  | srlv (rs rt rd : Reg)
  /-- `SRAV`, rule R330. -/
  | srav (rs rt rd : Reg)
  /-- `MFHI`, rule R348. -/
  | mfhi (rd : Reg)
  /-- `MTHI`, rule R349. -/
  | mthi (rs : Reg)
  /-- `MFLO`, rule R350. -/
  | mflo (rd : Reg)
  /-- `MTLO`, rule R351. -/
  | mtlo (rs : Reg)
  /-- `DSLLV`, rule R337. -/
  | dsllv (rs rt rd : Reg)
  /-- `DSRLV`, rule R338. -/
  | dsrlv (rs rt rd : Reg)
  /-- `DSRAV`, rule R339. -/
  | dsrav (rs rt rd : Reg)
  /-- `MULT`, rule R340. -/
  | mult (rs rt : Reg)
  /-- `MULTU`, rule R341. -/
  | multu (rs rt : Reg)
  /-- `DIV`, rule R342. -/
  | div (rs rt : Reg)
  /-- `DIVU`, rule R343. -/
  | divu (rs rt : Reg)
  /-- `DMULT`, rule R344. -/
  | dmult (rs rt : Reg)
  /-- `DMULTU`, rule R345. -/
  | dmultu (rs rt : Reg)
  /-- `DDIV`, rule R346. -/
  | ddiv (rs rt : Reg)
  /-- `DDIVU`, rule R347. -/
  | ddivu (rs rt : Reg)
  /-- `ADD`, rule R301. -/
  | add (rs rt rd : Reg)
  /-- `ADDU`, rule R302. -/
  | addu (rs rt rd : Reg)
  /-- `SUB`, rule R303. -/
  | sub (rs rt rd : Reg)
  /-- `SUBU`, rule R304. -/
  | subu (rs rt rd : Reg)
  /-- `AND`, rule R313. -/
  | and (rs rt rd : Reg)
  /-- `OR`, rule R314. -/
  | or (rs rt rd : Reg)
  /-- `XOR`, rule R315. -/
  | xor (rs rt rd : Reg)
  /-- `NOR`, rule R316. -/
  | nor (rs rt rd : Reg)
  /-- `SLT`, rule R321. -/
  | slt (rs rt rd : Reg)
  /-- `SLTU`, rule R322. -/
  | sltu (rs rt rd : Reg)
  /-- `DADD`, rule R307. -/
  | dadd (rs rt rd : Reg)
  /-- `DADDU`, rule R308. -/
  | daddu (rs rt rd : Reg)
  /-- `DSUB`, rule R309. -/
  | dsub (rs rt rd : Reg)
  /-- `DSUBU`, rule R310. -/
  | dsubu (rs rt rd : Reg)
  /-- `DSLL`, rule R331. -/
  | dsll (rt rd : Reg) (sa : BitVec 5)
  /-- `DSRL`, rule R332. -/
  | dsrl (rt rd : Reg) (sa : BitVec 5)
  /-- `DSRA`, rule R333. -/
  | dsra (rt rd : Reg) (sa : BitVec 5)
  /-- `DSLL32`, rule R334. -/
  | dsll32 (rt rd : Reg) (sa : BitVec 5)
  /-- `DSRL32`, rule R335. -/
  | dsrl32 (rt rd : Reg) (sa : BitVec 5)
  /-- `DSRA32`, rule R336. -/
  | dsra32 (rt rd : Reg) (sa : BitVec 5)
  /-- `NOP`, rule R352. -/
  | nop
  /-- `ADDI`, rule R305. -/
  | addi (rs rt : Reg) (imm : Half)
  /-- `ADDIU`, rule R306. -/
  | addiu (rs rt : Reg) (imm : Half)
  /-- `SLTI`, rule R323. -/
  | slti (rs rt : Reg) (imm : Half)
  /-- `SLTIU`, rule R324. -/
  | sltiu (rs rt : Reg) (imm : Half)
  /-- `ANDI`, rule R317. -/
  | andi (rs rt : Reg) (imm : Half)
  /-- `ORI`, rule R318. -/
  | ori (rs rt : Reg) (imm : Half)
  /-- `XORI`, rule R319. -/
  | xori (rs rt : Reg) (imm : Half)
  /-- `LUI`, rule R320. -/
  | lui (rt : Reg) (imm : Half)
  /-- `DADDI`, rule R311. -/
  | daddi (rs rt : Reg) (imm : Half)
  /-- `DADDIU`, rule R312. -/
  | daddiu (rs rt : Reg) (imm : Half)
  -- Branches and jumps (42_branch_jump.md).
  /-- `JR`, rule R407. -/
  | jr (rs : Reg)
  /-- `JALR`, rule R408. -/
  | jalr (rs rd : Reg)
  /-- `BLTZ`, rule R417. -/
  | bltz (rs : Reg) (imm : Half)
  /-- `BGEZ`, rule R418. -/
  | bgez (rs : Reg) (imm : Half)
  /-- `BLTZL`, rule R419. -/
  | bltzl (rs : Reg) (imm : Half)
  /-- `BGEZL`, rule R420. -/
  | bgezl (rs : Reg) (imm : Half)
  /-- `BLTZAL`, rule R421. -/
  | bltzal (rs : Reg) (imm : Half)
  /-- `BGEZAL`, rule R422. -/
  | bgezal (rs : Reg) (imm : Half)
  /-- `BLTZALL`, rule R423. -/
  | bltzall (rs : Reg) (imm : Half)
  /-- `BGEZALL`, rule R424. -/
  | bgezall (rs : Reg) (imm : Half)
  /-- `J`, rule R405. -/
  | j (target : BitVec 26)
  /-- `JAL`, rule R406. -/
  | jal (target : BitVec 26)
  /-- `BEQ`, rule R409. -/
  | beq (rs rt : Reg) (imm : Half)
  /-- `BNE`, rule R410. -/
  | bne (rs rt : Reg) (imm : Half)
  /-- `BLEZ`, rule R411. -/
  | blez (rs : Reg) (imm : Half)
  /-- `BGTZ`, rule R412. -/
  | bgtz (rs : Reg) (imm : Half)
  /-- `BEQL`, rule R413. -/
  | beql (rs rt : Reg) (imm : Half)
  /-- `BNEL`, rule R414. -/
  | bnel (rs rt : Reg) (imm : Half)
  /-- `BLEZL`, rule R415. -/
  | blezl (rs : Reg) (imm : Half)
  /-- `BGTZL`, rule R416. -/
  | bgtzl (rs : Reg) (imm : Half)
  /-- `BC1F`, rule R425. -/
  | bc1f (imm : Half)
  /-- `BC1T`, rule R426. -/
  | bc1t (imm : Half)
  /-- `BC1FL`, rule R427. -/
  | bc1fl (imm : Half)
  /-- `BC1TL`, rule R428. -/
  | bc1tl (imm : Half)
  -- Loads and stores (43_load_store.md).
  /-- `LDL`, rule R468. -/
  | ldl (base rt : Reg) (offset : Half)
  /-- `LDR`, rule R469. -/
  | ldr (base rt : Reg) (offset : Half)
  /-- `LB`, rule R455. -/
  | lb (base rt : Reg) (offset : Half)
  /-- `LH`, rule R457. -/
  | lh (base rt : Reg) (offset : Half)
  /-- `LWL`, rule R466. -/
  | lwl (base rt : Reg) (offset : Half)
  /-- `LW`, rule R459. -/
  | lw (base rt : Reg) (offset : Half)
  /-- `LBU`, rule R456. -/
  | lbu (base rt : Reg) (offset : Half)
  /-- `LHU`, rule R458. -/
  | lhu (base rt : Reg) (offset : Half)
  /-- `LWR`, rule R467. -/
  | lwr (base rt : Reg) (offset : Half)
  /-- `LWU`, rule R460. -/
  | lwu (base rt : Reg) (offset : Half)
  /-- `SB`, rule R462. -/
  | sb (base rt : Reg) (offset : Half)
  /-- `SH`, rule R463. -/
  | sh (base rt : Reg) (offset : Half)
  /-- `SWL`, rule R470. -/
  | swl (base rt : Reg) (offset : Half)
  /-- `SW`, rule R464. -/
  | sw (base rt : Reg) (offset : Half)
  /-- `SDL`, rule R472. -/
  | sdl (base rt : Reg) (offset : Half)
  /-- `SDR`, rule R473. -/
  | sdr (base rt : Reg) (offset : Half)
  /-- `SWR`, rule R471. -/
  | swr (base rt : Reg) (offset : Half)
  /-- `LL`, rule R480. -/
  | ll (base rt : Reg) (offset : Half)
  /-- `LWC1`, rule R485. -/
  | lwc1 (base ft : Reg) (offset : Half)
  /-- `LLD`, rule R481. -/
  | lld (base rt : Reg) (offset : Half)
  /-- `LDC1`, rule R486. -/
  | ldc1 (base ft : Reg) (offset : Half)
  /-- `LD`, rule R461. -/
  | ld (base rt : Reg) (offset : Half)
  /-- `SC`, rule R482. -/
  | sc (base rt : Reg) (offset : Half)
  /-- `SWC1`, rule R487. -/
  | swc1 (base ft : Reg) (offset : Half)
  /-- `SCD`, rule R483. -/
  | scd (base rt : Reg) (offset : Half)
  /-- `SDC1`, rule R488. -/
  | sdc1 (base ft : Reg) (offset : Half)
  /-- `SD`, rule R465. -/
  | sd (base rt : Reg) (offset : Half)
  -- COP0 and system instructions (44_cop0_system.md).
  /-- `SYSCALL`, rule R535. -/
  | syscall (code : BitVec 20)
  /-- `BREAK`, rule R536. -/
  | brk (code : BitVec 20)
  /-- `SYNC`, rule R531. -/
  | sync (stype : BitVec 5)
  /-- `TGE`, rule R537. -/
  | tge (rs rt : Reg) (code : BitVec 10)
  /-- `TGEU`, rule R538. -/
  | tgeu (rs rt : Reg) (code : BitVec 10)
  /-- `TLT`, rule R539. -/
  | tlt (rs rt : Reg) (code : BitVec 10)
  /-- `TLTU`, rule R540. -/
  | tltu (rs rt : Reg) (code : BitVec 10)
  /-- `TEQ`, rule R541. -/
  | teq (rs rt : Reg) (code : BitVec 10)
  /-- `TNE`, rule R542. -/
  | tne (rs rt : Reg) (code : BitVec 10)
  /-- `TGEI`, rule R543. -/
  | tgei (rs : Reg) (imm : Half)
  /-- `TGEIU`, rule R544. -/
  | tgeiu (rs : Reg) (imm : Half)
  /-- `TLTI`, rule R545. -/
  | tlti (rs : Reg) (imm : Half)
  /-- `TLTIU`, rule R546. -/
  | tltiu (rs : Reg) (imm : Half)
  /-- `TEQI`, rule R547. -/
  | teqi (rs : Reg) (imm : Half)
  /-- `TNEI`, rule R548. -/
  | tnei (rs : Reg) (imm : Half)
  /-- `CACHE`, rule R530. -/
  | cache (base : Reg) (op : BitVec 5) (offset : Half)
  /-- `MFC0`, rule R501. -/
  | mfc0 (rt rd : Reg)
  /-- `DMFC0`, rule R502. -/
  | dmfc0 (rt rd : Reg)
  /-- `MTC0`, rule R503. -/
  | mtc0 (rt rd : Reg)
  /-- `DMTC0`, rule R504. -/
  | dmtc0 (rt rd : Reg)
  /-- `ERET`, rule R510. -/
  | eret
  /-- `TLBR`, rule R520. -/
  | tlbr
  /-- `TLBWI`, rule R521. -/
  | tlbwi
  /-- `TLBWR`, rule R522. -/
  | tlbwr
  /-- `TLBP`, rule R523. -/
  | tlbp
  -- COP1 moves and arithmetic (45_fpu_move_arith.md).
  /-- `MFC1`, rule R555. -/
  | mfc1 (rt fs : Reg)
  /-- `DMFC1`, rule R556. -/
  | dmfc1 (rt fs : Reg)
  /-- `CFC1`, rule R557. -/
  | cfc1 (rt fs : Reg)
  /-- `MTC1`, rule R558. -/
  | mtc1 (rt fs : Reg)
  /-- `DMTC1`, rule R559. -/
  | dmtc1 (rt fs : Reg)
  /-- `CTC1`, rule R560. -/
  | ctc1 (rt fs : Reg)
  /-- `ADD.S`, rule R565. -/
  | addS (ft fs fd : Reg)
  /-- `ADD.D`, rule R566. -/
  | addD (ft fs fd : Reg)
  /-- `SUB.S`, rule R567. -/
  | subS (ft fs fd : Reg)
  /-- `SUB.D`, rule R568. -/
  | subD (ft fs fd : Reg)
  /-- `MUL.S`, rule R569. -/
  | mulS (ft fs fd : Reg)
  /-- `MUL.D`, rule R570. -/
  | mulD (ft fs fd : Reg)
  /-- `DIV.S`, rule R571. -/
  | divS (ft fs fd : Reg)
  /-- `DIV.D`, rule R572. -/
  | divD (ft fs fd : Reg)
  /-- `SQRT.S`, rule R573. -/
  | sqrtS (fs fd : Reg)
  /-- `SQRT.D`, rule R574. -/
  | sqrtD (fs fd : Reg)
  /-- `ABS.S`, rule R575. -/
  | absS (fs fd : Reg)
  /-- `ABS.D`, rule R576. -/
  | absD (fs fd : Reg)
  /-- `MOV.S`, rule R577. -/
  | movS (fs fd : Reg)
  /-- `MOV.D`, rule R578. -/
  | movD (fs fd : Reg)
  /-- `NEG.S`, rule R579. -/
  | negS (fs fd : Reg)
  /-- `NEG.D`, rule R580. -/
  | negD (fs fd : Reg)
  -- COP1 conversions and compares (46_fpu_convert_compare.md).
  /-- `CVT.S.D`, rule R630. -/
  | cvtSD (fs fd : Reg)
  /-- `CVT.S.W`, rule R631. -/
  | cvtSW (fs fd : Reg)
  /-- `CVT.S.L`, rule R632. -/
  | cvtSL (fs fd : Reg)
  /-- `CVT.D.S`, rule R633. -/
  | cvtDS (fs fd : Reg)
  /-- `CVT.D.W`, rule R634. -/
  | cvtDW (fs fd : Reg)
  /-- `CVT.D.L`, rule R635. -/
  | cvtDL (fs fd : Reg)
  /-- `CVT.W.S`, rule R636. -/
  | cvtWS (fs fd : Reg)
  /-- `CVT.W.D`, rule R637. -/
  | cvtWD (fs fd : Reg)
  /-- `CVT.L.S`, rule R638. -/
  | cvtLS (fs fd : Reg)
  /-- `CVT.L.D`, rule R639. -/
  | cvtLD (fs fd : Reg)
  /-- `ROUND.W.S`, rule R640. -/
  | roundWS (fs fd : Reg)
  /-- `ROUND.W.D`, rule R641. -/
  | roundWD (fs fd : Reg)
  /-- `TRUNC.W.S`, rule R642. -/
  | truncWS (fs fd : Reg)
  /-- `TRUNC.W.D`, rule R643. -/
  | truncWD (fs fd : Reg)
  /-- `CEIL.W.S`, rule R644. -/
  | ceilWS (fs fd : Reg)
  /-- `CEIL.W.D`, rule R645. -/
  | ceilWD (fs fd : Reg)
  /-- `FLOOR.W.S`, rule R646. -/
  | floorWS (fs fd : Reg)
  /-- `FLOOR.W.D`, rule R647. -/
  | floorWD (fs fd : Reg)
  /-- `ROUND.L.S`, rule R648. -/
  | roundLS (fs fd : Reg)
  /-- `ROUND.L.D`, rule R649. -/
  | roundLD (fs fd : Reg)
  /-- `TRUNC.L.S`, rule R650. -/
  | truncLS (fs fd : Reg)
  /-- `TRUNC.L.D`, rule R651. -/
  | truncLD (fs fd : Reg)
  /-- `CEIL.L.S`, rule R652. -/
  | ceilLS (fs fd : Reg)
  /-- `CEIL.L.D`, rule R653. -/
  | ceilLD (fs fd : Reg)
  /-- `FLOOR.L.S`, rule R654. -/
  | floorLS (fs fd : Reg)
  /-- `FLOOR.L.D`, rule R655. -/
  | floorLD (fs fd : Reg)
  /-- `C.F.S`, rule R660. -/
  | cFS (ft fs : Reg)
  /-- `C.F.D`, rule R661. -/
  | cFD (ft fs : Reg)
  /-- `C.UN.S`, rule R662. -/
  | cUnS (ft fs : Reg)
  /-- `C.UN.D`, rule R663. -/
  | cUnD (ft fs : Reg)
  /-- `C.EQ.S`, rule R664. -/
  | cEqS (ft fs : Reg)
  /-- `C.EQ.D`, rule R665. -/
  | cEqD (ft fs : Reg)
  /-- `C.UEQ.S`, rule R666. -/
  | cUeqS (ft fs : Reg)
  /-- `C.UEQ.D`, rule R667. -/
  | cUeqD (ft fs : Reg)
  /-- `C.OLT.S`, rule R668. -/
  | cOltS (ft fs : Reg)
  /-- `C.OLT.D`, rule R669. -/
  | cOltD (ft fs : Reg)
  /-- `C.ULT.S`, rule R670. -/
  | cUltS (ft fs : Reg)
  /-- `C.ULT.D`, rule R671. -/
  | cUltD (ft fs : Reg)
  /-- `C.OLE.S`, rule R672. -/
  | cOleS (ft fs : Reg)
  /-- `C.OLE.D`, rule R673. -/
  | cOleD (ft fs : Reg)
  /-- `C.ULE.S`, rule R674. -/
  | cUleS (ft fs : Reg)
  /-- `C.ULE.D`, rule R675. -/
  | cUleD (ft fs : Reg)
  /-- `C.SF.S`, rule R676. -/
  | cSfS (ft fs : Reg)
  /-- `C.SF.D`, rule R677. -/
  | cSfD (ft fs : Reg)
  /-- `C.NGLE.S`, rule R678. -/
  | cNgleS (ft fs : Reg)
  /-- `C.NGLE.D`, rule R679. -/
  | cNgleD (ft fs : Reg)
  /-- `C.SEQ.S`, rule R680. -/
  | cSeqS (ft fs : Reg)
  /-- `C.SEQ.D`, rule R681. -/
  | cSeqD (ft fs : Reg)
  /-- `C.NGL.S`, rule R682. -/
  | cNglS (ft fs : Reg)
  /-- `C.NGL.D`, rule R683. -/
  | cNglD (ft fs : Reg)
  /-- `C.LT.S`, rule R684. -/
  | cLtS (ft fs : Reg)
  /-- `C.LT.D`, rule R685. -/
  | cLtD (ft fs : Reg)
  /-- `C.NGE.S`, rule R686. -/
  | cNgeS (ft fs : Reg)
  /-- `C.NGE.D`, rule R687. -/
  | cNgeD (ft fs : Reg)
  /-- `C.LE.S`, rule R688. -/
  | cLeS (ft fs : Reg)
  /-- `C.LE.D`, rule R689. -/
  | cLeD (ft fs : Reg)
  /-- `C.NGT.S`, rule R690. -/
  | cNgtS (ft fs : Reg)
  /-- `C.NGT.D`, rule R691. -/
  | cNgtD (ft fs : Reg)
  deriving DecidableEq, Repr

end Sys2Proof
end

