-- ==== Sys2Proof/WellFormed.lean ====
section
/-! DEFINITION. Which instructions have a canonical word: the word with 0 in every field that the machine ignores. -/

namespace Sys2Proof

/-- An instruction is well-formed when its canonical word decodes to it. The operand types bound every field; the one
exception is `SLL r0, r0, 0`, whose canonical word 0x00000000 is the NOP (30_encoding.md R203). Words with other bits in
the ignored field 25:21 do decode to it (R204), and run it as the SLL it is (log 21). -/
def Instr.wellFormed (i : Instr) : Bool :=
  i != .sll 0#5 0#5 0#5

end Sys2Proof
end

