-- ==== Sys2Proof/Decode.lean ====
section
/-! DEFINITION. Decoding (30_encoding.md R200 to R212), the encoder, and the rows of spec/opcode_table.json as
mnemonics and patterns. -/

namespace Sys2Proof

/-! ## Fields of a word (R201) -/

/-- The primary opcode, bits 31:26. -/
def Field.op (w : Word32) : BitVec 6 := w.extractLsb' 26 6

/-- `rs`, `base`, a coprocessor selector or `fmt`: bits 25:21. -/
def Field.rs (w : Word32) : BitVec 5 := w.extractLsb' 21 5

/-- `rt`, `ft`, the REGIMM or FPU-branch selector, the cache operation: bits 20:16. -/
def Field.rt (w : Word32) : BitVec 5 := w.extractLsb' 16 5

/-- `rd` or `fs`: bits 15:11. -/
def Field.rd (w : Word32) : BitVec 5 := w.extractLsb' 11 5

/-- `sa`, `fd` or `stype`: bits 10:6. -/
def Field.sa (w : Word32) : BitVec 5 := w.extractLsb' 6 5

/-- `funct`: bits 5:0. -/
def Field.funct (w : Word32) : BitVec 6 := w.extractLsb' 0 6

/-- The immediate or offset, bits 15:0. -/
def Field.imm (w : Word32) : Half := w.extractLsb' 0 16

/-- The jump target, bits 25:0. -/
def Field.target (w : Word32) : BitVec 26 := w.extractLsb' 0 26

/-- The code of SYSCALL and BREAK, bits 25:6. -/
def Field.code (w : Word32) : BitVec 20 := w.extractLsb' 6 20

/-- The code of a conditional trap, bits 15:6. -/
def Field.trapCode (w : Word32) : BitVec 10 := w.extractLsb' 6 10

/-! ## The decoder -/

/-- The empty entry that a word selects (R203, R241): the table and the key. -/
inductive Miss where
  | primary (op : BitVec 6)
  | special (funct : BitVec 6)
  | regimm (rt : BitVec 5)
  | cop0 (rs : BitVec 5)
  | tlb (funct : BitVec 6)
  | cop1 (rs : BitVec 5)
  | fpuBranch (rt : BitVec 5)
  | fpuS (funct : BitVec 6)
  | fpuD (funct : BitVec 6)
  | fpuW (funct : BitVec 6)
  | fpuL (funct : BitVec 6)
  deriving DecidableEq, Repr

/-- The SPECIAL table (R207). -/
def decodeSpecial (w : Word32) : Except Miss Instr :=
  match Field.funct w with
  | 0x00#6 => .ok (.sll (Field.rt w) (Field.rd w) (Field.sa w))
  | 0x02#6 => .ok (.srl (Field.rt w) (Field.rd w) (Field.sa w))
  | 0x03#6 => .ok (.sra (Field.rt w) (Field.rd w) (Field.sa w))
  | 0x04#6 => .ok (.sllv (Field.rs w) (Field.rt w) (Field.rd w))
  | 0x06#6 => .ok (.srlv (Field.rs w) (Field.rt w) (Field.rd w))
  | 0x07#6 => .ok (.srav (Field.rs w) (Field.rt w) (Field.rd w))
  | 0x08#6 => .ok (.jr (Field.rs w))
  | 0x09#6 => .ok (.jalr (Field.rs w) (Field.rd w))
  | 0x0C#6 => .ok (.syscall (Field.code w))
  | 0x0D#6 => .ok (.brk (Field.code w))
  | 0x0F#6 => .ok (.sync (Field.sa w))
  | 0x10#6 => .ok (.mfhi (Field.rd w))
  | 0x11#6 => .ok (.mthi (Field.rs w))
  | 0x12#6 => .ok (.mflo (Field.rd w))
  | 0x13#6 => .ok (.mtlo (Field.rs w))
  | 0x14#6 => .ok (.dsllv (Field.rs w) (Field.rt w) (Field.rd w))
  | 0x16#6 => .ok (.dsrlv (Field.rs w) (Field.rt w) (Field.rd w))
  | 0x17#6 => .ok (.dsrav (Field.rs w) (Field.rt w) (Field.rd w))
  | 0x18#6 => .ok (.mult (Field.rs w) (Field.rt w))
  | 0x19#6 => .ok (.multu (Field.rs w) (Field.rt w))
  | 0x1A#6 => .ok (.div (Field.rs w) (Field.rt w))
  | 0x1B#6 => .ok (.divu (Field.rs w) (Field.rt w))
  | 0x1C#6 => .ok (.dmult (Field.rs w) (Field.rt w))
  | 0x1D#6 => .ok (.dmultu (Field.rs w) (Field.rt w))
  | 0x1E#6 => .ok (.ddiv (Field.rs w) (Field.rt w))
  | 0x1F#6 => .ok (.ddivu (Field.rs w) (Field.rt w))
  | 0x20#6 => .ok (.add (Field.rs w) (Field.rt w) (Field.rd w))
  | 0x21#6 => .ok (.addu (Field.rs w) (Field.rt w) (Field.rd w))
  | 0x22#6 => .ok (.sub (Field.rs w) (Field.rt w) (Field.rd w))
  | 0x23#6 => .ok (.subu (Field.rs w) (Field.rt w) (Field.rd w))
  | 0x24#6 => .ok (.and (Field.rs w) (Field.rt w) (Field.rd w))
  | 0x25#6 => .ok (.or (Field.rs w) (Field.rt w) (Field.rd w))
  | 0x26#6 => .ok (.xor (Field.rs w) (Field.rt w) (Field.rd w))
  | 0x27#6 => .ok (.nor (Field.rs w) (Field.rt w) (Field.rd w))
  | 0x2A#6 => .ok (.slt (Field.rs w) (Field.rt w) (Field.rd w))
  | 0x2B#6 => .ok (.sltu (Field.rs w) (Field.rt w) (Field.rd w))
  | 0x2C#6 => .ok (.dadd (Field.rs w) (Field.rt w) (Field.rd w))
  | 0x2D#6 => .ok (.daddu (Field.rs w) (Field.rt w) (Field.rd w))
  | 0x2E#6 => .ok (.dsub (Field.rs w) (Field.rt w) (Field.rd w))
  | 0x2F#6 => .ok (.dsubu (Field.rs w) (Field.rt w) (Field.rd w))
  | 0x30#6 => .ok (.tge (Field.rs w) (Field.rt w) (Field.trapCode w))
  | 0x31#6 => .ok (.tgeu (Field.rs w) (Field.rt w) (Field.trapCode w))
  | 0x32#6 => .ok (.tlt (Field.rs w) (Field.rt w) (Field.trapCode w))
  | 0x33#6 => .ok (.tltu (Field.rs w) (Field.rt w) (Field.trapCode w))
  | 0x34#6 => .ok (.teq (Field.rs w) (Field.rt w) (Field.trapCode w))
  | 0x36#6 => .ok (.tne (Field.rs w) (Field.rt w) (Field.trapCode w))
  | 0x38#6 => .ok (.dsll (Field.rt w) (Field.rd w) (Field.sa w))
  | 0x3A#6 => .ok (.dsrl (Field.rt w) (Field.rd w) (Field.sa w))
  | 0x3B#6 => .ok (.dsra (Field.rt w) (Field.rd w) (Field.sa w))
  | 0x3C#6 => .ok (.dsll32 (Field.rt w) (Field.rd w) (Field.sa w))
  | 0x3E#6 => .ok (.dsrl32 (Field.rt w) (Field.rd w) (Field.sa w))
  | 0x3F#6 => .ok (.dsra32 (Field.rt w) (Field.rd w) (Field.sa w))
  | k => .error (.special k)

/-- The REGIMM table (R208). -/
def decodeRegimm (w : Word32) : Except Miss Instr :=
  match Field.rt w with
  | 0x00#5 => .ok (.bltz (Field.rs w) (Field.imm w))
  | 0x01#5 => .ok (.bgez (Field.rs w) (Field.imm w))
  | 0x02#5 => .ok (.bltzl (Field.rs w) (Field.imm w))
  | 0x03#5 => .ok (.bgezl (Field.rs w) (Field.imm w))
  | 0x08#5 => .ok (.tgei (Field.rs w) (Field.imm w))
  | 0x09#5 => .ok (.tgeiu (Field.rs w) (Field.imm w))
  | 0x0A#5 => .ok (.tlti (Field.rs w) (Field.imm w))
  | 0x0B#5 => .ok (.tltiu (Field.rs w) (Field.imm w))
  | 0x0C#5 => .ok (.teqi (Field.rs w) (Field.imm w))
  | 0x0E#5 => .ok (.tnei (Field.rs w) (Field.imm w))
  | 0x10#5 => .ok (.bltzal (Field.rs w) (Field.imm w))
  | 0x11#5 => .ok (.bgezal (Field.rs w) (Field.imm w))
  | 0x12#5 => .ok (.bltzall (Field.rs w) (Field.imm w))
  | 0x13#5 => .ok (.bgezall (Field.rs w) (Field.imm w))
  | k => .error (.regimm k)

/-- The TLB table (R209). Function 0x18 is empty: ERET is the whole word only (R204). -/
def decodeTlb (w : Word32) : Except Miss Instr :=
  match Field.funct w with
  | 0x01#6 => .ok .tlbr
  | 0x02#6 => .ok .tlbwi
  | 0x06#6 => .ok .tlbwr
  | 0x08#6 => .ok .tlbp
  | k => .error (.tlb k)

/-- The COP0 decode (R209). -/
def decodeCop0 (w : Word32) : Except Miss Instr :=
  match Field.rs w with
  | 0x00#5 => .ok (.mfc0 (Field.rt w) (Field.rd w))
  | 0x01#5 => .ok (.dmfc0 (Field.rt w) (Field.rd w))
  | 0x04#5 => .ok (.mtc0 (Field.rt w) (Field.rd w))
  | 0x05#5 => .ok (.dmtc0 (Field.rt w) (Field.rd w))
  | 0x10#5 => decodeTlb w
  | k => .error (.cop0 k)

/-- The FPU-branch table (R210). -/
def decodeFpuBranch (w : Word32) : Except Miss Instr :=
  match Field.rt w with
  | 0x00#5 => .ok (.bc1f (Field.imm w))
  | 0x01#5 => .ok (.bc1t (Field.imm w))
  | 0x02#5 => .ok (.bc1fl (Field.imm w))
  | 0x03#5 => .ok (.bc1tl (Field.imm w))
  | k => .error (.fpuBranch k)

/-- The FPU table for format S (R211). -/
def decodeFpuS (w : Word32) : Except Miss Instr :=
  match Field.funct w with
  | 0x00#6 => .ok (.addS (Field.rt w) (Field.rd w) (Field.sa w))
  | 0x01#6 => .ok (.subS (Field.rt w) (Field.rd w) (Field.sa w))
  | 0x02#6 => .ok (.mulS (Field.rt w) (Field.rd w) (Field.sa w))
  | 0x03#6 => .ok (.divS (Field.rt w) (Field.rd w) (Field.sa w))
  | 0x04#6 => .ok (.sqrtS (Field.rd w) (Field.sa w))
  | 0x05#6 => .ok (.absS (Field.rd w) (Field.sa w))
  | 0x06#6 => .ok (.movS (Field.rd w) (Field.sa w))
  | 0x07#6 => .ok (.negS (Field.rd w) (Field.sa w))
  | 0x08#6 => .ok (.roundLS (Field.rd w) (Field.sa w))
  | 0x09#6 => .ok (.truncLS (Field.rd w) (Field.sa w))
  | 0x0A#6 => .ok (.ceilLS (Field.rd w) (Field.sa w))
  | 0x0B#6 => .ok (.floorLS (Field.rd w) (Field.sa w))
  | 0x0C#6 => .ok (.roundWS (Field.rd w) (Field.sa w))
  | 0x0D#6 => .ok (.truncWS (Field.rd w) (Field.sa w))
  | 0x0E#6 => .ok (.ceilWS (Field.rd w) (Field.sa w))
  | 0x0F#6 => .ok (.floorWS (Field.rd w) (Field.sa w))
  | 0x21#6 => .ok (.cvtDS (Field.rd w) (Field.sa w))
  | 0x24#6 => .ok (.cvtWS (Field.rd w) (Field.sa w))
  | 0x25#6 => .ok (.cvtLS (Field.rd w) (Field.sa w))
  | 0x30#6 => .ok (.cFS (Field.rt w) (Field.rd w))
  | 0x31#6 => .ok (.cUnS (Field.rt w) (Field.rd w))
  | 0x32#6 => .ok (.cEqS (Field.rt w) (Field.rd w))
  | 0x33#6 => .ok (.cUeqS (Field.rt w) (Field.rd w))
  | 0x34#6 => .ok (.cOltS (Field.rt w) (Field.rd w))
  | 0x35#6 => .ok (.cUltS (Field.rt w) (Field.rd w))
  | 0x36#6 => .ok (.cOleS (Field.rt w) (Field.rd w))
  | 0x37#6 => .ok (.cUleS (Field.rt w) (Field.rd w))
  | 0x38#6 => .ok (.cSfS (Field.rt w) (Field.rd w))
  | 0x39#6 => .ok (.cNgleS (Field.rt w) (Field.rd w))
  | 0x3A#6 => .ok (.cSeqS (Field.rt w) (Field.rd w))
  | 0x3B#6 => .ok (.cNglS (Field.rt w) (Field.rd w))
  | 0x3C#6 => .ok (.cLtS (Field.rt w) (Field.rd w))
  | 0x3D#6 => .ok (.cNgeS (Field.rt w) (Field.rd w))
  | 0x3E#6 => .ok (.cLeS (Field.rt w) (Field.rd w))
  | 0x3F#6 => .ok (.cNgtS (Field.rt w) (Field.rd w))
  | k => .error (.fpuS k)

/-- The FPU table for format D (R211). -/
def decodeFpuD (w : Word32) : Except Miss Instr :=
  match Field.funct w with
  | 0x00#6 => .ok (.addD (Field.rt w) (Field.rd w) (Field.sa w))
  | 0x01#6 => .ok (.subD (Field.rt w) (Field.rd w) (Field.sa w))
  | 0x02#6 => .ok (.mulD (Field.rt w) (Field.rd w) (Field.sa w))
  | 0x03#6 => .ok (.divD (Field.rt w) (Field.rd w) (Field.sa w))
  | 0x04#6 => .ok (.sqrtD (Field.rd w) (Field.sa w))
  | 0x05#6 => .ok (.absD (Field.rd w) (Field.sa w))
  | 0x06#6 => .ok (.movD (Field.rd w) (Field.sa w))
  | 0x07#6 => .ok (.negD (Field.rd w) (Field.sa w))
  | 0x08#6 => .ok (.roundLD (Field.rd w) (Field.sa w))
  | 0x09#6 => .ok (.truncLD (Field.rd w) (Field.sa w))
  | 0x0A#6 => .ok (.ceilLD (Field.rd w) (Field.sa w))
  | 0x0B#6 => .ok (.floorLD (Field.rd w) (Field.sa w))
  | 0x0C#6 => .ok (.roundWD (Field.rd w) (Field.sa w))
  | 0x0D#6 => .ok (.truncWD (Field.rd w) (Field.sa w))
  | 0x0E#6 => .ok (.ceilWD (Field.rd w) (Field.sa w))
  | 0x0F#6 => .ok (.floorWD (Field.rd w) (Field.sa w))
  | 0x20#6 => .ok (.cvtSD (Field.rd w) (Field.sa w))
  | 0x24#6 => .ok (.cvtWD (Field.rd w) (Field.sa w))
  | 0x25#6 => .ok (.cvtLD (Field.rd w) (Field.sa w))
  | 0x30#6 => .ok (.cFD (Field.rt w) (Field.rd w))
  | 0x31#6 => .ok (.cUnD (Field.rt w) (Field.rd w))
  | 0x32#6 => .ok (.cEqD (Field.rt w) (Field.rd w))
  | 0x33#6 => .ok (.cUeqD (Field.rt w) (Field.rd w))
  | 0x34#6 => .ok (.cOltD (Field.rt w) (Field.rd w))
  | 0x35#6 => .ok (.cUltD (Field.rt w) (Field.rd w))
  | 0x36#6 => .ok (.cOleD (Field.rt w) (Field.rd w))
  | 0x37#6 => .ok (.cUleD (Field.rt w) (Field.rd w))
  | 0x38#6 => .ok (.cSfD (Field.rt w) (Field.rd w))
  | 0x39#6 => .ok (.cNgleD (Field.rt w) (Field.rd w))
  | 0x3A#6 => .ok (.cSeqD (Field.rt w) (Field.rd w))
  | 0x3B#6 => .ok (.cNglD (Field.rt w) (Field.rd w))
  | 0x3C#6 => .ok (.cLtD (Field.rt w) (Field.rd w))
  | 0x3D#6 => .ok (.cNgeD (Field.rt w) (Field.rd w))
  | 0x3E#6 => .ok (.cLeD (Field.rt w) (Field.rd w))
  | 0x3F#6 => .ok (.cNgtD (Field.rt w) (Field.rd w))
  | k => .error (.fpuD k)

/-- The FPU table for format W (R212). -/
def decodeFpuW (w : Word32) : Except Miss Instr :=
  match Field.funct w with
  | 0x20#6 => .ok (.cvtSW (Field.rd w) (Field.sa w))
  | 0x21#6 => .ok (.cvtDW (Field.rd w) (Field.sa w))
  | k => .error (.fpuW k)

/-- The FPU table for format L (R212). -/
def decodeFpuL (w : Word32) : Except Miss Instr :=
  match Field.funct w with
  | 0x20#6 => .ok (.cvtSL (Field.rd w) (Field.sa w))
  | 0x21#6 => .ok (.cvtDL (Field.rd w) (Field.sa w))
  | k => .error (.fpuL k)

/-- The COP1 decode (R210). -/
def decodeCop1 (w : Word32) : Except Miss Instr :=
  match Field.rs w with
  | 0x00#5 => .ok (.mfc1 (Field.rt w) (Field.rd w))
  | 0x01#5 => .ok (.dmfc1 (Field.rt w) (Field.rd w))
  | 0x02#5 => .ok (.cfc1 (Field.rt w) (Field.rd w))
  | 0x04#5 => .ok (.mtc1 (Field.rt w) (Field.rd w))
  | 0x05#5 => .ok (.dmtc1 (Field.rt w) (Field.rd w))
  | 0x06#5 => .ok (.ctc1 (Field.rt w) (Field.rd w))
  | 0x08#5 => decodeFpuBranch w
  | 0x10#5 => decodeFpuS w
  | 0x11#5 => decodeFpuD w
  | 0x14#5 => decodeFpuW w
  | 0x15#5 => decodeFpuL w
  | k => .error (.cop1 k)

/-- The PRIMARY table (R206) with its redirects. -/
def decodePrimary (w : Word32) : Except Miss Instr :=
  match Field.op w with
  | 0x00#6 => decodeSpecial w
  | 0x01#6 => decodeRegimm w
  | 0x02#6 => .ok (.j (Field.target w))
  | 0x03#6 => .ok (.jal (Field.target w))
  | 0x04#6 => .ok (.beq (Field.rs w) (Field.rt w) (Field.imm w))
  | 0x05#6 => .ok (.bne (Field.rs w) (Field.rt w) (Field.imm w))
  | 0x06#6 => .ok (.blez (Field.rs w) (Field.imm w))
  | 0x07#6 => .ok (.bgtz (Field.rs w) (Field.imm w))
  | 0x08#6 => .ok (.addi (Field.rs w) (Field.rt w) (Field.imm w))
  | 0x09#6 => .ok (.addiu (Field.rs w) (Field.rt w) (Field.imm w))
  | 0x0A#6 => .ok (.slti (Field.rs w) (Field.rt w) (Field.imm w))
  | 0x0B#6 => .ok (.sltiu (Field.rs w) (Field.rt w) (Field.imm w))
  | 0x0C#6 => .ok (.andi (Field.rs w) (Field.rt w) (Field.imm w))
  | 0x0D#6 => .ok (.ori (Field.rs w) (Field.rt w) (Field.imm w))
  | 0x0E#6 => .ok (.xori (Field.rs w) (Field.rt w) (Field.imm w))
  | 0x0F#6 => .ok (.lui (Field.rt w) (Field.imm w))
  | 0x10#6 => decodeCop0 w
  | 0x11#6 => decodeCop1 w
  | 0x14#6 => .ok (.beql (Field.rs w) (Field.rt w) (Field.imm w))
  | 0x15#6 => .ok (.bnel (Field.rs w) (Field.rt w) (Field.imm w))
  | 0x16#6 => .ok (.blezl (Field.rs w) (Field.imm w))
  | 0x17#6 => .ok (.bgtzl (Field.rs w) (Field.imm w))
  | 0x18#6 => .ok (.daddi (Field.rs w) (Field.rt w) (Field.imm w))
  | 0x19#6 => .ok (.daddiu (Field.rs w) (Field.rt w) (Field.imm w))
  | 0x1A#6 => .ok (.ldl (Field.rs w) (Field.rt w) (Field.imm w))
  | 0x1B#6 => .ok (.ldr (Field.rs w) (Field.rt w) (Field.imm w))
  | 0x20#6 => .ok (.lb (Field.rs w) (Field.rt w) (Field.imm w))
  | 0x21#6 => .ok (.lh (Field.rs w) (Field.rt w) (Field.imm w))
  | 0x22#6 => .ok (.lwl (Field.rs w) (Field.rt w) (Field.imm w))
  | 0x23#6 => .ok (.lw (Field.rs w) (Field.rt w) (Field.imm w))
  | 0x24#6 => .ok (.lbu (Field.rs w) (Field.rt w) (Field.imm w))
  | 0x25#6 => .ok (.lhu (Field.rs w) (Field.rt w) (Field.imm w))
  | 0x26#6 => .ok (.lwr (Field.rs w) (Field.rt w) (Field.imm w))
  | 0x27#6 => .ok (.lwu (Field.rs w) (Field.rt w) (Field.imm w))
  | 0x28#6 => .ok (.sb (Field.rs w) (Field.rt w) (Field.imm w))
  | 0x29#6 => .ok (.sh (Field.rs w) (Field.rt w) (Field.imm w))
  | 0x2A#6 => .ok (.swl (Field.rs w) (Field.rt w) (Field.imm w))
  | 0x2B#6 => .ok (.sw (Field.rs w) (Field.rt w) (Field.imm w))
  | 0x2C#6 => .ok (.sdl (Field.rs w) (Field.rt w) (Field.imm w))
  | 0x2D#6 => .ok (.sdr (Field.rs w) (Field.rt w) (Field.imm w))
  | 0x2E#6 => .ok (.swr (Field.rs w) (Field.rt w) (Field.imm w))
  | 0x2F#6 => .ok (.cache (Field.rs w) (Field.rt w) (Field.imm w))
  | 0x30#6 => .ok (.ll (Field.rs w) (Field.rt w) (Field.imm w))
  | 0x31#6 => .ok (.lwc1 (Field.rs w) (Field.rt w) (Field.imm w))
  | 0x34#6 => .ok (.lld (Field.rs w) (Field.rt w) (Field.imm w))
  | 0x35#6 => .ok (.ldc1 (Field.rs w) (Field.rt w) (Field.imm w))
  | 0x37#6 => .ok (.ld (Field.rs w) (Field.rt w) (Field.imm w))
  | 0x38#6 => .ok (.sc (Field.rs w) (Field.rt w) (Field.imm w))
  | 0x39#6 => .ok (.swc1 (Field.rs w) (Field.rt w) (Field.imm w))
  | 0x3C#6 => .ok (.scd (Field.rs w) (Field.rt w) (Field.imm w))
  | 0x3D#6 => .ok (.sdc1 (Field.rs w) (Field.rt w) (Field.imm w))
  | 0x3F#6 => .ok (.sd (Field.rs w) (Field.rt w) (Field.imm w))
  | k => .error (.primary k)

/-- Decoding of a word (R203): the two whole words first, then the tables. -/
def decode (w : Word32) : Except Miss Instr :=
  if w = 0x00000000#32 then .ok .nop
  else if w = 0x42000018#32 then .ok .eret
  else decodePrimary w

/-- Why a list of bytes holds no instruction. -/
inductive DecodeError where
  /-- Fewer than four bytes (R200). -/
  | tooShort (bytes : List Byte)
  /-- The word selects an empty entry (R241). -/
  | miss (w : Word32) (m : Miss)
  deriving DecidableEq, Repr

/-- The big-endian word of four bytes (R200). -/
def wordOfBytes (b0 b1 b2 b3 : Byte) : Word32 := b0 ++ b1 ++ b2 ++ b3

/-- Decoding of bytes: an instruction takes exactly four (R200); the rest of the list is given back. -/
def decodeBytes : List Byte → Except DecodeError (Instr × List Byte)
  | b0 :: b1 :: b2 :: b3 :: rest =>
    match decode (wordOfBytes b0 b1 b2 b3) with
    | .ok i => .ok (i, rest)
    | .error m => .error (.miss (wordOfBytes b0 b1 b2 b3) m)
  | bs => .error (.tooShort bs)

/-- The four bytes of a word, as memory holds them (R200). -/
def bytesOfWord (w : Word32) : List Byte :=
  [w.extractLsb' 24 8, w.extractLsb' 16 8, w.extractLsb' 8 8, w.extractLsb' 0 8]

/-- The word that the low `nbits` bits of a number give, the bits above them 0. -/
def tableWord (nbits w : Nat) : Word32 := BitVec.ofNat 32 (w % 2 ^ nbits)

/-- The instruction of a word that is numbered as the opcode table numbers it. -/
def decodeTableWord (nbits w : Nat) : Option Instr :=
  match decodeBytes (bytesOfWord (tableWord nbits w)) with
  | .ok (i, _) => some i
  | .error _ => none

/-! ## The encoder -/

/-- R format, and every format that is cut like it (R201). -/
def encR (op : BitVec 6) (rs rt rd sa : BitVec 5) (funct : BitVec 6) : Word32 :=
  op ++ rs ++ rt ++ rd ++ sa ++ funct

/-- I format, and every format that is cut like it (R201). -/
def encI (op : BitVec 6) (rs rt : BitVec 5) (imm : Half) : Word32 := op ++ rs ++ rt ++ imm

/-- J format (R201). -/
def encJ (op : BitVec 6) (target : BitVec 26) : Word32 := op ++ target

/-- SYSCALL and BREAK: a code of 20 bits. -/
def encCode (op : BitVec 6) (code : BitVec 20) (funct : BitVec 6) : Word32 := op ++ code ++ funct

/-- The conditional traps on registers: a code of 10 bits. -/
def encTrap (op : BitVec 6) (rs rt : BitVec 5) (code : BitVec 10) (funct : BitVec 6) : Word32 :=
  op ++ rs ++ rt ++ code ++ funct

/-- The word of an instruction; fields that the machine ignores are 0. -/
def encode : Instr → Word32
  | .sll rt rd sa => encR 0x00#6 0x00#5 rt rd sa 0x00#6
  | .srl rt rd sa => encR 0x00#6 0x00#5 rt rd sa 0x02#6
  | .sra rt rd sa => encR 0x00#6 0x00#5 rt rd sa 0x03#6
  | .sllv rs rt rd => encR 0x00#6 rs rt rd 0x00#5 0x04#6
  | .srlv rs rt rd => encR 0x00#6 rs rt rd 0x00#5 0x06#6
  | .srav rs rt rd => encR 0x00#6 rs rt rd 0x00#5 0x07#6
  | .jr rs => encR 0x00#6 rs 0x00#5 0x00#5 0x00#5 0x08#6
  | .jalr rs rd => encR 0x00#6 rs 0x00#5 rd 0x00#5 0x09#6
  | .syscall code => encCode 0x00#6 code 0x0C#6
  | .brk code => encCode 0x00#6 code 0x0D#6
  | .sync stype => encR 0x00#6 0x00#5 0x00#5 0x00#5 stype 0x0F#6
  | .mfhi rd => encR 0x00#6 0x00#5 0x00#5 rd 0x00#5 0x10#6
  | .mthi rs => encR 0x00#6 rs 0x00#5 0x00#5 0x00#5 0x11#6
  | .mflo rd => encR 0x00#6 0x00#5 0x00#5 rd 0x00#5 0x12#6
  | .mtlo rs => encR 0x00#6 rs 0x00#5 0x00#5 0x00#5 0x13#6
  | .dsllv rs rt rd => encR 0x00#6 rs rt rd 0x00#5 0x14#6
  | .dsrlv rs rt rd => encR 0x00#6 rs rt rd 0x00#5 0x16#6
  | .dsrav rs rt rd => encR 0x00#6 rs rt rd 0x00#5 0x17#6
  | .mult rs rt => encR 0x00#6 rs rt 0x00#5 0x00#5 0x18#6
  | .multu rs rt => encR 0x00#6 rs rt 0x00#5 0x00#5 0x19#6
  | .div rs rt => encR 0x00#6 rs rt 0x00#5 0x00#5 0x1A#6
  | .divu rs rt => encR 0x00#6 rs rt 0x00#5 0x00#5 0x1B#6
  | .dmult rs rt => encR 0x00#6 rs rt 0x00#5 0x00#5 0x1C#6
  | .dmultu rs rt => encR 0x00#6 rs rt 0x00#5 0x00#5 0x1D#6
  | .ddiv rs rt => encR 0x00#6 rs rt 0x00#5 0x00#5 0x1E#6
  | .ddivu rs rt => encR 0x00#6 rs rt 0x00#5 0x00#5 0x1F#6
  | .add rs rt rd => encR 0x00#6 rs rt rd 0x00#5 0x20#6
  | .addu rs rt rd => encR 0x00#6 rs rt rd 0x00#5 0x21#6
  | .sub rs rt rd => encR 0x00#6 rs rt rd 0x00#5 0x22#6
  | .subu rs rt rd => encR 0x00#6 rs rt rd 0x00#5 0x23#6
  | .and rs rt rd => encR 0x00#6 rs rt rd 0x00#5 0x24#6
  | .or rs rt rd => encR 0x00#6 rs rt rd 0x00#5 0x25#6
  | .xor rs rt rd => encR 0x00#6 rs rt rd 0x00#5 0x26#6
  | .nor rs rt rd => encR 0x00#6 rs rt rd 0x00#5 0x27#6
  | .slt rs rt rd => encR 0x00#6 rs rt rd 0x00#5 0x2A#6
  | .sltu rs rt rd => encR 0x00#6 rs rt rd 0x00#5 0x2B#6
  | .dadd rs rt rd => encR 0x00#6 rs rt rd 0x00#5 0x2C#6
  | .daddu rs rt rd => encR 0x00#6 rs rt rd 0x00#5 0x2D#6
  | .dsub rs rt rd => encR 0x00#6 rs rt rd 0x00#5 0x2E#6
  | .dsubu rs rt rd => encR 0x00#6 rs rt rd 0x00#5 0x2F#6
  | .tge rs rt code => encTrap 0x00#6 rs rt code 0x30#6
  | .tgeu rs rt code => encTrap 0x00#6 rs rt code 0x31#6
  | .tlt rs rt code => encTrap 0x00#6 rs rt code 0x32#6
  | .tltu rs rt code => encTrap 0x00#6 rs rt code 0x33#6
  | .teq rs rt code => encTrap 0x00#6 rs rt code 0x34#6
  | .tne rs rt code => encTrap 0x00#6 rs rt code 0x36#6
  | .dsll rt rd sa => encR 0x00#6 0x00#5 rt rd sa 0x38#6
  | .dsrl rt rd sa => encR 0x00#6 0x00#5 rt rd sa 0x3A#6
  | .dsra rt rd sa => encR 0x00#6 0x00#5 rt rd sa 0x3B#6
  | .dsll32 rt rd sa => encR 0x00#6 0x00#5 rt rd sa 0x3C#6
  | .dsrl32 rt rd sa => encR 0x00#6 0x00#5 rt rd sa 0x3E#6
  | .dsra32 rt rd sa => encR 0x00#6 0x00#5 rt rd sa 0x3F#6
  | .nop => 0x00000000#32
  | .bltz rs imm => encI 0x01#6 rs 0x00#5 imm
  | .bgez rs imm => encI 0x01#6 rs 0x01#5 imm
  | .bltzl rs imm => encI 0x01#6 rs 0x02#5 imm
  | .bgezl rs imm => encI 0x01#6 rs 0x03#5 imm
  | .tgei rs imm => encI 0x01#6 rs 0x08#5 imm
  | .tgeiu rs imm => encI 0x01#6 rs 0x09#5 imm
  | .tlti rs imm => encI 0x01#6 rs 0x0A#5 imm
  | .tltiu rs imm => encI 0x01#6 rs 0x0B#5 imm
  | .teqi rs imm => encI 0x01#6 rs 0x0C#5 imm
  | .tnei rs imm => encI 0x01#6 rs 0x0E#5 imm
  | .bltzal rs imm => encI 0x01#6 rs 0x10#5 imm
  | .bgezal rs imm => encI 0x01#6 rs 0x11#5 imm
  | .bltzall rs imm => encI 0x01#6 rs 0x12#5 imm
  | .bgezall rs imm => encI 0x01#6 rs 0x13#5 imm
  | .j target => encJ 0x02#6 target
  | .jal target => encJ 0x03#6 target
  | .beq rs rt imm => encI 0x04#6 rs rt imm
  | .bne rs rt imm => encI 0x05#6 rs rt imm
  | .blez rs imm => encI 0x06#6 rs 0x00#5 imm
  | .bgtz rs imm => encI 0x07#6 rs 0x00#5 imm
  | .addi rs rt imm => encI 0x08#6 rs rt imm
  | .addiu rs rt imm => encI 0x09#6 rs rt imm
  | .slti rs rt imm => encI 0x0A#6 rs rt imm
  | .sltiu rs rt imm => encI 0x0B#6 rs rt imm
  | .andi rs rt imm => encI 0x0C#6 rs rt imm
  | .ori rs rt imm => encI 0x0D#6 rs rt imm
  | .xori rs rt imm => encI 0x0E#6 rs rt imm
  | .lui rt imm => encI 0x0F#6 0x00#5 rt imm
  | .beql rs rt imm => encI 0x14#6 rs rt imm
  | .bnel rs rt imm => encI 0x15#6 rs rt imm
  | .blezl rs imm => encI 0x16#6 rs 0x00#5 imm
  | .bgtzl rs imm => encI 0x17#6 rs 0x00#5 imm
  | .daddi rs rt imm => encI 0x18#6 rs rt imm
  | .daddiu rs rt imm => encI 0x19#6 rs rt imm
  | .ldl base rt offset => encI 0x1A#6 base rt offset
  | .ldr base rt offset => encI 0x1B#6 base rt offset
  | .lb base rt offset => encI 0x20#6 base rt offset
  | .lh base rt offset => encI 0x21#6 base rt offset
  | .lwl base rt offset => encI 0x22#6 base rt offset
  | .lw base rt offset => encI 0x23#6 base rt offset
  | .lbu base rt offset => encI 0x24#6 base rt offset
  | .lhu base rt offset => encI 0x25#6 base rt offset
  | .lwr base rt offset => encI 0x26#6 base rt offset
  | .lwu base rt offset => encI 0x27#6 base rt offset
  | .sb base rt offset => encI 0x28#6 base rt offset
  | .sh base rt offset => encI 0x29#6 base rt offset
  | .swl base rt offset => encI 0x2A#6 base rt offset
  | .sw base rt offset => encI 0x2B#6 base rt offset
  | .sdl base rt offset => encI 0x2C#6 base rt offset
  | .sdr base rt offset => encI 0x2D#6 base rt offset
  | .swr base rt offset => encI 0x2E#6 base rt offset
  | .cache base op offset => encI 0x2F#6 base op offset
  | .ll base rt offset => encI 0x30#6 base rt offset
  | .lwc1 base ft offset => encI 0x31#6 base ft offset
  | .lld base rt offset => encI 0x34#6 base rt offset
  | .ldc1 base ft offset => encI 0x35#6 base ft offset
  | .ld base rt offset => encI 0x37#6 base rt offset
  | .sc base rt offset => encI 0x38#6 base rt offset
  | .swc1 base ft offset => encI 0x39#6 base ft offset
  | .scd base rt offset => encI 0x3C#6 base rt offset
  | .sdc1 base ft offset => encI 0x3D#6 base ft offset
  | .sd base rt offset => encI 0x3F#6 base rt offset
  | .mfc0 rt rd => encR 0x10#6 0x00#5 rt rd 0x00#5 0x00#6
  | .dmfc0 rt rd => encR 0x10#6 0x01#5 rt rd 0x00#5 0x00#6
  | .mtc0 rt rd => encR 0x10#6 0x04#5 rt rd 0x00#5 0x00#6
  | .dmtc0 rt rd => encR 0x10#6 0x05#5 rt rd 0x00#5 0x00#6
  | .eret => 0x42000018#32
  | .tlbr => encR 0x10#6 0x10#5 0x00#5 0x00#5 0x00#5 0x01#6
  | .tlbwi => encR 0x10#6 0x10#5 0x00#5 0x00#5 0x00#5 0x02#6
  | .tlbwr => encR 0x10#6 0x10#5 0x00#5 0x00#5 0x00#5 0x06#6
  | .tlbp => encR 0x10#6 0x10#5 0x00#5 0x00#5 0x00#5 0x08#6
  | .mfc1 rt fs => encR 0x11#6 0x00#5 rt fs 0x00#5 0x00#6
  | .dmfc1 rt fs => encR 0x11#6 0x01#5 rt fs 0x00#5 0x00#6
  | .cfc1 rt fs => encR 0x11#6 0x02#5 rt fs 0x00#5 0x00#6
  | .mtc1 rt fs => encR 0x11#6 0x04#5 rt fs 0x00#5 0x00#6
  | .dmtc1 rt fs => encR 0x11#6 0x05#5 rt fs 0x00#5 0x00#6
  | .ctc1 rt fs => encR 0x11#6 0x06#5 rt fs 0x00#5 0x00#6
  | .bc1f imm => encI 0x11#6 0x08#5 0x00#5 imm
  | .bc1t imm => encI 0x11#6 0x08#5 0x01#5 imm
  | .bc1fl imm => encI 0x11#6 0x08#5 0x02#5 imm
  | .bc1tl imm => encI 0x11#6 0x08#5 0x03#5 imm
  | .addS ft fs fd => encR 0x11#6 0x10#5 ft fs fd 0x00#6
  | .addD ft fs fd => encR 0x11#6 0x11#5 ft fs fd 0x00#6
  | .subS ft fs fd => encR 0x11#6 0x10#5 ft fs fd 0x01#6
  | .subD ft fs fd => encR 0x11#6 0x11#5 ft fs fd 0x01#6
  | .mulS ft fs fd => encR 0x11#6 0x10#5 ft fs fd 0x02#6
  | .mulD ft fs fd => encR 0x11#6 0x11#5 ft fs fd 0x02#6
  | .divS ft fs fd => encR 0x11#6 0x10#5 ft fs fd 0x03#6
  | .divD ft fs fd => encR 0x11#6 0x11#5 ft fs fd 0x03#6
  | .sqrtS fs fd => encR 0x11#6 0x10#5 0x00#5 fs fd 0x04#6
  | .sqrtD fs fd => encR 0x11#6 0x11#5 0x00#5 fs fd 0x04#6
  | .absS fs fd => encR 0x11#6 0x10#5 0x00#5 fs fd 0x05#6
  | .absD fs fd => encR 0x11#6 0x11#5 0x00#5 fs fd 0x05#6
  | .movS fs fd => encR 0x11#6 0x10#5 0x00#5 fs fd 0x06#6
  | .movD fs fd => encR 0x11#6 0x11#5 0x00#5 fs fd 0x06#6
  | .negS fs fd => encR 0x11#6 0x10#5 0x00#5 fs fd 0x07#6
  | .negD fs fd => encR 0x11#6 0x11#5 0x00#5 fs fd 0x07#6
  | .cvtSD fs fd => encR 0x11#6 0x11#5 0x00#5 fs fd 0x20#6
  | .cvtSW fs fd => encR 0x11#6 0x14#5 0x00#5 fs fd 0x20#6
  | .cvtSL fs fd => encR 0x11#6 0x15#5 0x00#5 fs fd 0x20#6
  | .cvtDS fs fd => encR 0x11#6 0x10#5 0x00#5 fs fd 0x21#6
  | .cvtDW fs fd => encR 0x11#6 0x14#5 0x00#5 fs fd 0x21#6
  | .cvtDL fs fd => encR 0x11#6 0x15#5 0x00#5 fs fd 0x21#6
  | .cvtWS fs fd => encR 0x11#6 0x10#5 0x00#5 fs fd 0x24#6
  | .cvtWD fs fd => encR 0x11#6 0x11#5 0x00#5 fs fd 0x24#6
  | .cvtLS fs fd => encR 0x11#6 0x10#5 0x00#5 fs fd 0x25#6
  | .cvtLD fs fd => encR 0x11#6 0x11#5 0x00#5 fs fd 0x25#6
  | .roundWS fs fd => encR 0x11#6 0x10#5 0x00#5 fs fd 0x0C#6
  | .roundWD fs fd => encR 0x11#6 0x11#5 0x00#5 fs fd 0x0C#6
  | .truncWS fs fd => encR 0x11#6 0x10#5 0x00#5 fs fd 0x0D#6
  | .truncWD fs fd => encR 0x11#6 0x11#5 0x00#5 fs fd 0x0D#6
  | .ceilWS fs fd => encR 0x11#6 0x10#5 0x00#5 fs fd 0x0E#6
  | .ceilWD fs fd => encR 0x11#6 0x11#5 0x00#5 fs fd 0x0E#6
  | .floorWS fs fd => encR 0x11#6 0x10#5 0x00#5 fs fd 0x0F#6
  | .floorWD fs fd => encR 0x11#6 0x11#5 0x00#5 fs fd 0x0F#6
  | .roundLS fs fd => encR 0x11#6 0x10#5 0x00#5 fs fd 0x08#6
  | .roundLD fs fd => encR 0x11#6 0x11#5 0x00#5 fs fd 0x08#6
  | .truncLS fs fd => encR 0x11#6 0x10#5 0x00#5 fs fd 0x09#6
  | .truncLD fs fd => encR 0x11#6 0x11#5 0x00#5 fs fd 0x09#6
  | .ceilLS fs fd => encR 0x11#6 0x10#5 0x00#5 fs fd 0x0A#6
  | .ceilLD fs fd => encR 0x11#6 0x11#5 0x00#5 fs fd 0x0A#6
  | .floorLS fs fd => encR 0x11#6 0x10#5 0x00#5 fs fd 0x0B#6
  | .floorLD fs fd => encR 0x11#6 0x11#5 0x00#5 fs fd 0x0B#6
  | .cFS ft fs => encR 0x11#6 0x10#5 ft fs 0x00#5 0x30#6
  | .cFD ft fs => encR 0x11#6 0x11#5 ft fs 0x00#5 0x30#6
  | .cUnS ft fs => encR 0x11#6 0x10#5 ft fs 0x00#5 0x31#6
  | .cUnD ft fs => encR 0x11#6 0x11#5 ft fs 0x00#5 0x31#6
  | .cEqS ft fs => encR 0x11#6 0x10#5 ft fs 0x00#5 0x32#6
  | .cEqD ft fs => encR 0x11#6 0x11#5 ft fs 0x00#5 0x32#6
  | .cUeqS ft fs => encR 0x11#6 0x10#5 ft fs 0x00#5 0x33#6
  | .cUeqD ft fs => encR 0x11#6 0x11#5 ft fs 0x00#5 0x33#6
  | .cOltS ft fs => encR 0x11#6 0x10#5 ft fs 0x00#5 0x34#6
  | .cOltD ft fs => encR 0x11#6 0x11#5 ft fs 0x00#5 0x34#6
  | .cUltS ft fs => encR 0x11#6 0x10#5 ft fs 0x00#5 0x35#6
  | .cUltD ft fs => encR 0x11#6 0x11#5 ft fs 0x00#5 0x35#6
  | .cOleS ft fs => encR 0x11#6 0x10#5 ft fs 0x00#5 0x36#6
  | .cOleD ft fs => encR 0x11#6 0x11#5 ft fs 0x00#5 0x36#6
  | .cUleS ft fs => encR 0x11#6 0x10#5 ft fs 0x00#5 0x37#6
  | .cUleD ft fs => encR 0x11#6 0x11#5 ft fs 0x00#5 0x37#6
  | .cSfS ft fs => encR 0x11#6 0x10#5 ft fs 0x00#5 0x38#6
  | .cSfD ft fs => encR 0x11#6 0x11#5 ft fs 0x00#5 0x38#6
  | .cNgleS ft fs => encR 0x11#6 0x10#5 ft fs 0x00#5 0x39#6
  | .cNgleD ft fs => encR 0x11#6 0x11#5 ft fs 0x00#5 0x39#6
  | .cSeqS ft fs => encR 0x11#6 0x10#5 ft fs 0x00#5 0x3A#6
  | .cSeqD ft fs => encR 0x11#6 0x11#5 ft fs 0x00#5 0x3A#6
  | .cNglS ft fs => encR 0x11#6 0x10#5 ft fs 0x00#5 0x3B#6
  | .cNglD ft fs => encR 0x11#6 0x11#5 ft fs 0x00#5 0x3B#6
  | .cLtS ft fs => encR 0x11#6 0x10#5 ft fs 0x00#5 0x3C#6
  | .cLtD ft fs => encR 0x11#6 0x11#5 ft fs 0x00#5 0x3C#6
  | .cNgeS ft fs => encR 0x11#6 0x10#5 ft fs 0x00#5 0x3D#6
  | .cNgeD ft fs => encR 0x11#6 0x11#5 ft fs 0x00#5 0x3D#6
  | .cLeS ft fs => encR 0x11#6 0x10#5 ft fs 0x00#5 0x3E#6
  | .cLeD ft fs => encR 0x11#6 0x11#5 ft fs 0x00#5 0x3E#6
  | .cNgtS ft fs => encR 0x11#6 0x10#5 ft fs 0x00#5 0x3F#6
  | .cNgtD ft fs => encR 0x11#6 0x11#5 ft fs 0x00#5 0x3F#6

/-! ## The rows of spec/opcode_table.json -/

/-- The row's `mnemonic`. -/
def Instr.mnemonic : Instr → String
  | .sll .. => "SLL"
  | .srl .. => "SRL"
  | .sra .. => "SRA"
  | .sllv .. => "SLLV"
  | .srlv .. => "SRLV"
  | .srav .. => "SRAV"
  | .jr .. => "JR"
  | .jalr .. => "JALR"
  | .syscall .. => "SYSCALL"
  | .brk .. => "BREAK"
  | .sync .. => "SYNC"
  | .mfhi .. => "MFHI"
  | .mthi .. => "MTHI"
  | .mflo .. => "MFLO"
  | .mtlo .. => "MTLO"
  | .dsllv .. => "DSLLV"
  | .dsrlv .. => "DSRLV"
  | .dsrav .. => "DSRAV"
  | .mult .. => "MULT"
  | .multu .. => "MULTU"
  | .div .. => "DIV"
  | .divu .. => "DIVU"
  | .dmult .. => "DMULT"
  | .dmultu .. => "DMULTU"
  | .ddiv .. => "DDIV"
  | .ddivu .. => "DDIVU"
  | .add .. => "ADD"
  | .addu .. => "ADDU"
  | .sub .. => "SUB"
  | .subu .. => "SUBU"
  | .and .. => "AND"
  | .or .. => "OR"
  | .xor .. => "XOR"
  | .nor .. => "NOR"
  | .slt .. => "SLT"
  | .sltu .. => "SLTU"
  | .dadd .. => "DADD"
  | .daddu .. => "DADDU"
  | .dsub .. => "DSUB"
  | .dsubu .. => "DSUBU"
  | .tge .. => "TGE"
  | .tgeu .. => "TGEU"
  | .tlt .. => "TLT"
  | .tltu .. => "TLTU"
  | .teq .. => "TEQ"
  | .tne .. => "TNE"
  | .dsll .. => "DSLL"
  | .dsrl .. => "DSRL"
  | .dsra .. => "DSRA"
  | .dsll32 .. => "DSLL32"
  | .dsrl32 .. => "DSRL32"
  | .dsra32 .. => "DSRA32"
  | .nop => "NOP"
  | .bltz .. => "BLTZ"
  | .bgez .. => "BGEZ"
  | .bltzl .. => "BLTZL"
  | .bgezl .. => "BGEZL"
  | .tgei .. => "TGEI"
  | .tgeiu .. => "TGEIU"
  | .tlti .. => "TLTI"
  | .tltiu .. => "TLTIU"
  | .teqi .. => "TEQI"
  | .tnei .. => "TNEI"
  | .bltzal .. => "BLTZAL"
  | .bgezal .. => "BGEZAL"
  | .bltzall .. => "BLTZALL"
  | .bgezall .. => "BGEZALL"
  | .j .. => "J"
  | .jal .. => "JAL"
  | .beq .. => "BEQ"
  | .bne .. => "BNE"
  | .blez .. => "BLEZ"
  | .bgtz .. => "BGTZ"
  | .addi .. => "ADDI"
  | .addiu .. => "ADDIU"
  | .slti .. => "SLTI"
  | .sltiu .. => "SLTIU"
  | .andi .. => "ANDI"
  | .ori .. => "ORI"
  | .xori .. => "XORI"
  | .lui .. => "LUI"
  | .beql .. => "BEQL"
  | .bnel .. => "BNEL"
  | .blezl .. => "BLEZL"
  | .bgtzl .. => "BGTZL"
  | .daddi .. => "DADDI"
  | .daddiu .. => "DADDIU"
  | .ldl .. => "LDL"
  | .ldr .. => "LDR"
  | .lb .. => "LB"
  | .lh .. => "LH"
  | .lwl .. => "LWL"
  | .lw .. => "LW"
  | .lbu .. => "LBU"
  | .lhu .. => "LHU"
  | .lwr .. => "LWR"
  | .lwu .. => "LWU"
  | .sb .. => "SB"
  | .sh .. => "SH"
  | .swl .. => "SWL"
  | .sw .. => "SW"
  | .sdl .. => "SDL"
  | .sdr .. => "SDR"
  | .swr .. => "SWR"
  | .cache .. => "CACHE"
  | .ll .. => "LL"
  | .lwc1 .. => "LWC1"
  | .lld .. => "LLD"
  | .ldc1 .. => "LDC1"
  | .ld .. => "LD"
  | .sc .. => "SC"
  | .swc1 .. => "SWC1"
  | .scd .. => "SCD"
  | .sdc1 .. => "SDC1"
  | .sd .. => "SD"
  | .mfc0 .. => "MFC0"
  | .dmfc0 .. => "DMFC0"
  | .mtc0 .. => "MTC0"
  | .dmtc0 .. => "DMTC0"
  | .eret => "ERET"
  | .tlbr => "TLBR"
  | .tlbwi => "TLBWI"
  | .tlbwr => "TLBWR"
  | .tlbp => "TLBP"
  | .mfc1 .. => "MFC1"
  | .dmfc1 .. => "DMFC1"
  | .cfc1 .. => "CFC1"
  | .mtc1 .. => "MTC1"
  | .dmtc1 .. => "DMTC1"
  | .ctc1 .. => "CTC1"
  | .bc1f .. => "BC1F"
  | .bc1t .. => "BC1T"
  | .bc1fl .. => "BC1FL"
  | .bc1tl .. => "BC1TL"
  | .addS .. => "ADD.S"
  | .addD .. => "ADD.D"
  | .subS .. => "SUB.S"
  | .subD .. => "SUB.D"
  | .mulS .. => "MUL.S"
  | .mulD .. => "MUL.D"
  | .divS .. => "DIV.S"
  | .divD .. => "DIV.D"
  | .sqrtS .. => "SQRT.S"
  | .sqrtD .. => "SQRT.D"
  | .absS .. => "ABS.S"
  | .absD .. => "ABS.D"
  | .movS .. => "MOV.S"
  | .movD .. => "MOV.D"
  | .negS .. => "NEG.S"
  | .negD .. => "NEG.D"
  | .cvtSD .. => "CVT.S.D"
  | .cvtSW .. => "CVT.S.W"
  | .cvtSL .. => "CVT.S.L"
  | .cvtDS .. => "CVT.D.S"
  | .cvtDW .. => "CVT.D.W"
  | .cvtDL .. => "CVT.D.L"
  | .cvtWS .. => "CVT.W.S"
  | .cvtWD .. => "CVT.W.D"
  | .cvtLS .. => "CVT.L.S"
  | .cvtLD .. => "CVT.L.D"
  | .roundWS .. => "ROUND.W.S"
  | .roundWD .. => "ROUND.W.D"
  | .truncWS .. => "TRUNC.W.S"
  | .truncWD .. => "TRUNC.W.D"
  | .ceilWS .. => "CEIL.W.S"
  | .ceilWD .. => "CEIL.W.D"
  | .floorWS .. => "FLOOR.W.S"
  | .floorWD .. => "FLOOR.W.D"
  | .roundLS .. => "ROUND.L.S"
  | .roundLD .. => "ROUND.L.D"
  | .truncLS .. => "TRUNC.L.S"
  | .truncLD .. => "TRUNC.L.D"
  | .ceilLS .. => "CEIL.L.S"
  | .ceilLD .. => "CEIL.L.D"
  | .floorLS .. => "FLOOR.L.S"
  | .floorLD .. => "FLOOR.L.D"
  | .cFS .. => "C.F.S"
  | .cFD .. => "C.F.D"
  | .cUnS .. => "C.UN.S"
  | .cUnD .. => "C.UN.D"
  | .cEqS .. => "C.EQ.S"
  | .cEqD .. => "C.EQ.D"
  | .cUeqS .. => "C.UEQ.S"
  | .cUeqD .. => "C.UEQ.D"
  | .cOltS .. => "C.OLT.S"
  | .cOltD .. => "C.OLT.D"
  | .cUltS .. => "C.ULT.S"
  | .cUltD .. => "C.ULT.D"
  | .cOleS .. => "C.OLE.S"
  | .cOleD .. => "C.OLE.D"
  | .cUleS .. => "C.ULE.S"
  | .cUleD .. => "C.ULE.D"
  | .cSfS .. => "C.SF.S"
  | .cSfD .. => "C.SF.D"
  | .cNgleS .. => "C.NGLE.S"
  | .cNgleD .. => "C.NGLE.D"
  | .cSeqS .. => "C.SEQ.S"
  | .cSeqD .. => "C.SEQ.D"
  | .cNglS .. => "C.NGL.S"
  | .cNglD .. => "C.NGL.D"
  | .cLtS .. => "C.LT.S"
  | .cLtD .. => "C.LT.D"
  | .cNgeS .. => "C.NGE.S"
  | .cNgeD .. => "C.NGE.D"
  | .cLeS .. => "C.LE.S"
  | .cLeD .. => "C.LE.D"
  | .cNgtS .. => "C.NGT.S"
  | .cNgtD .. => "C.NGT.D"

/-- The row's `match`: the key bits of its words. -/
def Instr.match32 : Instr → Word32
  | .sll .. => 0x00000000#32
  | .srl .. => 0x00000002#32
  | .sra .. => 0x00000003#32
  | .sllv .. => 0x00000004#32
  | .srlv .. => 0x00000006#32
  | .srav .. => 0x00000007#32
  | .jr .. => 0x00000008#32
  | .jalr .. => 0x00000009#32
  | .syscall .. => 0x0000000C#32
  | .brk .. => 0x0000000D#32
  | .sync .. => 0x0000000F#32
  | .mfhi .. => 0x00000010#32
  | .mthi .. => 0x00000011#32
  | .mflo .. => 0x00000012#32
  | .mtlo .. => 0x00000013#32
  | .dsllv .. => 0x00000014#32
  | .dsrlv .. => 0x00000016#32
  | .dsrav .. => 0x00000017#32
  | .mult .. => 0x00000018#32
  | .multu .. => 0x00000019#32
  | .div .. => 0x0000001A#32
  | .divu .. => 0x0000001B#32
  | .dmult .. => 0x0000001C#32
  | .dmultu .. => 0x0000001D#32
  | .ddiv .. => 0x0000001E#32
  | .ddivu .. => 0x0000001F#32
  | .add .. => 0x00000020#32
  | .addu .. => 0x00000021#32
  | .sub .. => 0x00000022#32
  | .subu .. => 0x00000023#32
  | .and .. => 0x00000024#32
  | .or .. => 0x00000025#32
  | .xor .. => 0x00000026#32
  | .nor .. => 0x00000027#32
  | .slt .. => 0x0000002A#32
  | .sltu .. => 0x0000002B#32
  | .dadd .. => 0x0000002C#32
  | .daddu .. => 0x0000002D#32
  | .dsub .. => 0x0000002E#32
  | .dsubu .. => 0x0000002F#32
  | .tge .. => 0x00000030#32
  | .tgeu .. => 0x00000031#32
  | .tlt .. => 0x00000032#32
  | .tltu .. => 0x00000033#32
  | .teq .. => 0x00000034#32
  | .tne .. => 0x00000036#32
  | .dsll .. => 0x00000038#32
  | .dsrl .. => 0x0000003A#32
  | .dsra .. => 0x0000003B#32
  | .dsll32 .. => 0x0000003C#32
  | .dsrl32 .. => 0x0000003E#32
  | .dsra32 .. => 0x0000003F#32
  | .nop => 0x00000000#32
  | .bltz .. => 0x04000000#32
  | .bgez .. => 0x04010000#32
  | .bltzl .. => 0x04020000#32
  | .bgezl .. => 0x04030000#32
  | .tgei .. => 0x04080000#32
  | .tgeiu .. => 0x04090000#32
  | .tlti .. => 0x040A0000#32
  | .tltiu .. => 0x040B0000#32
  | .teqi .. => 0x040C0000#32
  | .tnei .. => 0x040E0000#32
  | .bltzal .. => 0x04100000#32
  | .bgezal .. => 0x04110000#32
  | .bltzall .. => 0x04120000#32
  | .bgezall .. => 0x04130000#32
  | .j .. => 0x08000000#32
  | .jal .. => 0x0C000000#32
  | .beq .. => 0x10000000#32
  | .bne .. => 0x14000000#32
  | .blez .. => 0x18000000#32
  | .bgtz .. => 0x1C000000#32
  | .addi .. => 0x20000000#32
  | .addiu .. => 0x24000000#32
  | .slti .. => 0x28000000#32
  | .sltiu .. => 0x2C000000#32
  | .andi .. => 0x30000000#32
  | .ori .. => 0x34000000#32
  | .xori .. => 0x38000000#32
  | .lui .. => 0x3C000000#32
  | .beql .. => 0x50000000#32
  | .bnel .. => 0x54000000#32
  | .blezl .. => 0x58000000#32
  | .bgtzl .. => 0x5C000000#32
  | .daddi .. => 0x60000000#32
  | .daddiu .. => 0x64000000#32
  | .ldl .. => 0x68000000#32
  | .ldr .. => 0x6C000000#32
  | .lb .. => 0x80000000#32
  | .lh .. => 0x84000000#32
  | .lwl .. => 0x88000000#32
  | .lw .. => 0x8C000000#32
  | .lbu .. => 0x90000000#32
  | .lhu .. => 0x94000000#32
  | .lwr .. => 0x98000000#32
  | .lwu .. => 0x9C000000#32
  | .sb .. => 0xA0000000#32
  | .sh .. => 0xA4000000#32
  | .swl .. => 0xA8000000#32
  | .sw .. => 0xAC000000#32
  | .sdl .. => 0xB0000000#32
  | .sdr .. => 0xB4000000#32
  | .swr .. => 0xB8000000#32
  | .cache .. => 0xBC000000#32
  | .ll .. => 0xC0000000#32
  | .lwc1 .. => 0xC4000000#32
  | .lld .. => 0xD0000000#32
  | .ldc1 .. => 0xD4000000#32
  | .ld .. => 0xDC000000#32
  | .sc .. => 0xE0000000#32
  | .swc1 .. => 0xE4000000#32
  | .scd .. => 0xF0000000#32
  | .sdc1 .. => 0xF4000000#32
  | .sd .. => 0xFC000000#32
  | .mfc0 .. => 0x40000000#32
  | .dmfc0 .. => 0x40200000#32
  | .mtc0 .. => 0x40800000#32
  | .dmtc0 .. => 0x40A00000#32
  | .eret => 0x42000018#32
  | .tlbr => 0x42000001#32
  | .tlbwi => 0x42000002#32
  | .tlbwr => 0x42000006#32
  | .tlbp => 0x42000008#32
  | .mfc1 .. => 0x44000000#32
  | .dmfc1 .. => 0x44200000#32
  | .cfc1 .. => 0x44400000#32
  | .mtc1 .. => 0x44800000#32
  | .dmtc1 .. => 0x44A00000#32
  | .ctc1 .. => 0x44C00000#32
  | .bc1f .. => 0x45000000#32
  | .bc1t .. => 0x45010000#32
  | .bc1fl .. => 0x45020000#32
  | .bc1tl .. => 0x45030000#32
  | .addS .. => 0x46000000#32
  | .addD .. => 0x46200000#32
  | .subS .. => 0x46000001#32
  | .subD .. => 0x46200001#32
  | .mulS .. => 0x46000002#32
  | .mulD .. => 0x46200002#32
  | .divS .. => 0x46000003#32
  | .divD .. => 0x46200003#32
  | .sqrtS .. => 0x46000004#32
  | .sqrtD .. => 0x46200004#32
  | .absS .. => 0x46000005#32
  | .absD .. => 0x46200005#32
  | .movS .. => 0x46000006#32
  | .movD .. => 0x46200006#32
  | .negS .. => 0x46000007#32
  | .negD .. => 0x46200007#32
  | .cvtSD .. => 0x46200020#32
  | .cvtSW .. => 0x46800020#32
  | .cvtSL .. => 0x46A00020#32
  | .cvtDS .. => 0x46000021#32
  | .cvtDW .. => 0x46800021#32
  | .cvtDL .. => 0x46A00021#32
  | .cvtWS .. => 0x46000024#32
  | .cvtWD .. => 0x46200024#32
  | .cvtLS .. => 0x46000025#32
  | .cvtLD .. => 0x46200025#32
  | .roundWS .. => 0x4600000C#32
  | .roundWD .. => 0x4620000C#32
  | .truncWS .. => 0x4600000D#32
  | .truncWD .. => 0x4620000D#32
  | .ceilWS .. => 0x4600000E#32
  | .ceilWD .. => 0x4620000E#32
  | .floorWS .. => 0x4600000F#32
  | .floorWD .. => 0x4620000F#32
  | .roundLS .. => 0x46000008#32
  | .roundLD .. => 0x46200008#32
  | .truncLS .. => 0x46000009#32
  | .truncLD .. => 0x46200009#32
  | .ceilLS .. => 0x4600000A#32
  | .ceilLD .. => 0x4620000A#32
  | .floorLS .. => 0x4600000B#32
  | .floorLD .. => 0x4620000B#32
  | .cFS .. => 0x46000030#32
  | .cFD .. => 0x46200030#32
  | .cUnS .. => 0x46000031#32
  | .cUnD .. => 0x46200031#32
  | .cEqS .. => 0x46000032#32
  | .cEqD .. => 0x46200032#32
  | .cUeqS .. => 0x46000033#32
  | .cUeqD .. => 0x46200033#32
  | .cOltS .. => 0x46000034#32
  | .cOltD .. => 0x46200034#32
  | .cUltS .. => 0x46000035#32
  | .cUltD .. => 0x46200035#32
  | .cOleS .. => 0x46000036#32
  | .cOleD .. => 0x46200036#32
  | .cUleS .. => 0x46000037#32
  | .cUleD .. => 0x46200037#32
  | .cSfS .. => 0x46000038#32
  | .cSfD .. => 0x46200038#32
  | .cNgleS .. => 0x46000039#32
  | .cNgleD .. => 0x46200039#32
  | .cSeqS .. => 0x4600003A#32
  | .cSeqD .. => 0x4620003A#32
  | .cNglS .. => 0x4600003B#32
  | .cNglD .. => 0x4620003B#32
  | .cLtS .. => 0x4600003C#32
  | .cLtD .. => 0x4620003C#32
  | .cNgeS .. => 0x4600003D#32
  | .cNgeD .. => 0x4620003D#32
  | .cLeS .. => 0x4600003E#32
  | .cLeD .. => 0x4620003E#32
  | .cNgtS .. => 0x4600003F#32
  | .cNgtD .. => 0x4620003F#32

/-- The row's `mask`: which bits of a word are key bits. -/
def Instr.mask32 : Instr → Word32
  | .sll .. => 0xFC00003F#32
  | .srl .. => 0xFC00003F#32
  | .sra .. => 0xFC00003F#32
  | .sllv .. => 0xFC00003F#32
  | .srlv .. => 0xFC00003F#32
  | .srav .. => 0xFC00003F#32
  | .jr .. => 0xFC00003F#32
  | .jalr .. => 0xFC00003F#32
  | .syscall .. => 0xFC00003F#32
  | .brk .. => 0xFC00003F#32
  | .sync .. => 0xFC00003F#32
  | .mfhi .. => 0xFC00003F#32
  | .mthi .. => 0xFC00003F#32
  | .mflo .. => 0xFC00003F#32
  | .mtlo .. => 0xFC00003F#32
  | .dsllv .. => 0xFC00003F#32
  | .dsrlv .. => 0xFC00003F#32
  | .dsrav .. => 0xFC00003F#32
  | .mult .. => 0xFC00003F#32
  | .multu .. => 0xFC00003F#32
  | .div .. => 0xFC00003F#32
  | .divu .. => 0xFC00003F#32
  | .dmult .. => 0xFC00003F#32
  | .dmultu .. => 0xFC00003F#32
  | .ddiv .. => 0xFC00003F#32
  | .ddivu .. => 0xFC00003F#32
  | .add .. => 0xFC00003F#32
  | .addu .. => 0xFC00003F#32
  | .sub .. => 0xFC00003F#32
  | .subu .. => 0xFC00003F#32
  | .and .. => 0xFC00003F#32
  | .or .. => 0xFC00003F#32
  | .xor .. => 0xFC00003F#32
  | .nor .. => 0xFC00003F#32
  | .slt .. => 0xFC00003F#32
  | .sltu .. => 0xFC00003F#32
  | .dadd .. => 0xFC00003F#32
  | .daddu .. => 0xFC00003F#32
  | .dsub .. => 0xFC00003F#32
  | .dsubu .. => 0xFC00003F#32
  | .tge .. => 0xFC00003F#32
  | .tgeu .. => 0xFC00003F#32
  | .tlt .. => 0xFC00003F#32
  | .tltu .. => 0xFC00003F#32
  | .teq .. => 0xFC00003F#32
  | .tne .. => 0xFC00003F#32
  | .dsll .. => 0xFC00003F#32
  | .dsrl .. => 0xFC00003F#32
  | .dsra .. => 0xFC00003F#32
  | .dsll32 .. => 0xFC00003F#32
  | .dsrl32 .. => 0xFC00003F#32
  | .dsra32 .. => 0xFC00003F#32
  | .nop => 0xFFFFFFFF#32
  | .bltz .. => 0xFC1F0000#32
  | .bgez .. => 0xFC1F0000#32
  | .bltzl .. => 0xFC1F0000#32
  | .bgezl .. => 0xFC1F0000#32
  | .tgei .. => 0xFC1F0000#32
  | .tgeiu .. => 0xFC1F0000#32
  | .tlti .. => 0xFC1F0000#32
  | .tltiu .. => 0xFC1F0000#32
  | .teqi .. => 0xFC1F0000#32
  | .tnei .. => 0xFC1F0000#32
  | .bltzal .. => 0xFC1F0000#32
  | .bgezal .. => 0xFC1F0000#32
  | .bltzall .. => 0xFC1F0000#32
  | .bgezall .. => 0xFC1F0000#32
  | .j .. => 0xFC000000#32
  | .jal .. => 0xFC000000#32
  | .beq .. => 0xFC000000#32
  | .bne .. => 0xFC000000#32
  | .blez .. => 0xFC000000#32
  | .bgtz .. => 0xFC000000#32
  | .addi .. => 0xFC000000#32
  | .addiu .. => 0xFC000000#32
  | .slti .. => 0xFC000000#32
  | .sltiu .. => 0xFC000000#32
  | .andi .. => 0xFC000000#32
  | .ori .. => 0xFC000000#32
  | .xori .. => 0xFC000000#32
  | .lui .. => 0xFC000000#32
  | .beql .. => 0xFC000000#32
  | .bnel .. => 0xFC000000#32
  | .blezl .. => 0xFC000000#32
  | .bgtzl .. => 0xFC000000#32
  | .daddi .. => 0xFC000000#32
  | .daddiu .. => 0xFC000000#32
  | .ldl .. => 0xFC000000#32
  | .ldr .. => 0xFC000000#32
  | .lb .. => 0xFC000000#32
  | .lh .. => 0xFC000000#32
  | .lwl .. => 0xFC000000#32
  | .lw .. => 0xFC000000#32
  | .lbu .. => 0xFC000000#32
  | .lhu .. => 0xFC000000#32
  | .lwr .. => 0xFC000000#32
  | .lwu .. => 0xFC000000#32
  | .sb .. => 0xFC000000#32
  | .sh .. => 0xFC000000#32
  | .swl .. => 0xFC000000#32
  | .sw .. => 0xFC000000#32
  | .sdl .. => 0xFC000000#32
  | .sdr .. => 0xFC000000#32
  | .swr .. => 0xFC000000#32
  | .cache .. => 0xFC000000#32
  | .ll .. => 0xFC000000#32
  | .lwc1 .. => 0xFC000000#32
  | .lld .. => 0xFC000000#32
  | .ldc1 .. => 0xFC000000#32
  | .ld .. => 0xFC000000#32
  | .sc .. => 0xFC000000#32
  | .swc1 .. => 0xFC000000#32
  | .scd .. => 0xFC000000#32
  | .sdc1 .. => 0xFC000000#32
  | .sd .. => 0xFC000000#32
  | .mfc0 .. => 0xFFE00000#32
  | .dmfc0 .. => 0xFFE00000#32
  | .mtc0 .. => 0xFFE00000#32
  | .dmtc0 .. => 0xFFE00000#32
  | .eret => 0xFFFFFFFF#32
  | .tlbr => 0xFFE0003F#32
  | .tlbwi => 0xFFE0003F#32
  | .tlbwr => 0xFFE0003F#32
  | .tlbp => 0xFFE0003F#32
  | .mfc1 .. => 0xFFE00000#32
  | .dmfc1 .. => 0xFFE00000#32
  | .cfc1 .. => 0xFFE00000#32
  | .mtc1 .. => 0xFFE00000#32
  | .dmtc1 .. => 0xFFE00000#32
  | .ctc1 .. => 0xFFE00000#32
  | .bc1f .. => 0xFFFF0000#32
  | .bc1t .. => 0xFFFF0000#32
  | .bc1fl .. => 0xFFFF0000#32
  | .bc1tl .. => 0xFFFF0000#32
  | .addS .. => 0xFFE0003F#32
  | .addD .. => 0xFFE0003F#32
  | .subS .. => 0xFFE0003F#32
  | .subD .. => 0xFFE0003F#32
  | .mulS .. => 0xFFE0003F#32
  | .mulD .. => 0xFFE0003F#32
  | .divS .. => 0xFFE0003F#32
  | .divD .. => 0xFFE0003F#32
  | .sqrtS .. => 0xFFE0003F#32
  | .sqrtD .. => 0xFFE0003F#32
  | .absS .. => 0xFFE0003F#32
  | .absD .. => 0xFFE0003F#32
  | .movS .. => 0xFFE0003F#32
  | .movD .. => 0xFFE0003F#32
  | .negS .. => 0xFFE0003F#32
  | .negD .. => 0xFFE0003F#32
  | .cvtSD .. => 0xFFE0003F#32
  | .cvtSW .. => 0xFFE0003F#32
  | .cvtSL .. => 0xFFE0003F#32
  | .cvtDS .. => 0xFFE0003F#32
  | .cvtDW .. => 0xFFE0003F#32
  | .cvtDL .. => 0xFFE0003F#32
  | .cvtWS .. => 0xFFE0003F#32
  | .cvtWD .. => 0xFFE0003F#32
  | .cvtLS .. => 0xFFE0003F#32
  | .cvtLD .. => 0xFFE0003F#32
  | .roundWS .. => 0xFFE0003F#32
  | .roundWD .. => 0xFFE0003F#32
  | .truncWS .. => 0xFFE0003F#32
  | .truncWD .. => 0xFFE0003F#32
  | .ceilWS .. => 0xFFE0003F#32
  | .ceilWD .. => 0xFFE0003F#32
  | .floorWS .. => 0xFFE0003F#32
  | .floorWD .. => 0xFFE0003F#32
  | .roundLS .. => 0xFFE0003F#32
  | .roundLD .. => 0xFFE0003F#32
  | .truncLS .. => 0xFFE0003F#32
  | .truncLD .. => 0xFFE0003F#32
  | .ceilLS .. => 0xFFE0003F#32
  | .ceilLD .. => 0xFFE0003F#32
  | .floorLS .. => 0xFFE0003F#32
  | .floorLD .. => 0xFFE0003F#32
  | .cFS .. => 0xFFE0003F#32
  | .cFD .. => 0xFFE0003F#32
  | .cUnS .. => 0xFFE0003F#32
  | .cUnD .. => 0xFFE0003F#32
  | .cEqS .. => 0xFFE0003F#32
  | .cEqD .. => 0xFFE0003F#32
  | .cUeqS .. => 0xFFE0003F#32
  | .cUeqD .. => 0xFFE0003F#32
  | .cOltS .. => 0xFFE0003F#32
  | .cOltD .. => 0xFFE0003F#32
  | .cUltS .. => 0xFFE0003F#32
  | .cUltD .. => 0xFFE0003F#32
  | .cOleS .. => 0xFFE0003F#32
  | .cOleD .. => 0xFFE0003F#32
  | .cUleS .. => 0xFFE0003F#32
  | .cUleD .. => 0xFFE0003F#32
  | .cSfS .. => 0xFFE0003F#32
  | .cSfD .. => 0xFFE0003F#32
  | .cNgleS .. => 0xFFE0003F#32
  | .cNgleD .. => 0xFFE0003F#32
  | .cSeqS .. => 0xFFE0003F#32
  | .cSeqD .. => 0xFFE0003F#32
  | .cNglS .. => 0xFFE0003F#32
  | .cNglD .. => 0xFFE0003F#32
  | .cLtS .. => 0xFFE0003F#32
  | .cLtD .. => 0xFFE0003F#32
  | .cNgeS .. => 0xFFE0003F#32
  | .cNgeD .. => 0xFFE0003F#32
  | .cLeS .. => 0xFFE0003F#32
  | .cLeD .. => 0xFFE0003F#32
  | .cNgtS .. => 0xFFE0003F#32
  | .cNgtD .. => 0xFFE0003F#32

end Sys2Proof
end

