-- ==== Sys2Proof/Config.lean ====
section
/-! DEFINITION. What an implementation fixes: the parameters of 00_scope.md R11 as plain data, the record a machine
is constructed from (70_reset_and_hazards.md R770, R775), and the free values, each a constant without a body. -/

namespace Sys2Proof

/-- The parameter `HILO_W` (R11, D3): the width of each of HI and LO. -/
inductive HiLoWidth where
  | w32
  | w64
  deriving DecidableEq, Repr, Inhabited

/-- The parameter `MISALIGNED_DATA` (R11, D10). -/
inductive MisalignedData where
  | halt
  | bytewise
  deriving DecidableEq, Repr, Inhabited

/-- The parameter `TLB_OPS` (R11, D23). -/
inductive TlbOps where
  | nop
  | halt
  deriving DecidableEq, Repr, Inhabited

/-- The parameter `TRAP_INSNS` (R11, D26). -/
inductive TrapInsns where
  | halt
  | raise
  deriving DecidableEq, Repr, Inhabited

/-- The parameter `DIV_OVERFLOW` (R11, D48). -/
inductive DivOverflow where
  | halt
  | mips
  deriving DecidableEq, Repr, Inhabited

/-- The devices of the routing table (20_memory.md R160, 00_scope.md R24). The SP row stands as two, as R160's note
allows: its registers and its PC block (log 17). -/
inductive DeviceId where
  | sp
  | spPc
  | dp
  | mi
  | vi
  | ai
  | pi
  | ri
  | si
  | pif
  deriving DecidableEq, Repr, Inhabited

/-- The device's place among the register blocks of State. -/
def DeviceId.index : DeviceId → Fin 10
  | .sp => 0
  | .spPc => 1
  | .dp => 2
  | .mi => 3
  | .vi => 4
  | .ai => 5
  | .pi => 6
  | .ri => 7
  | .si => 8
  | .pif => 9

/-- How the interrupt controller answers the bus (log 14): as every other device, its reads the oracle `DeviceRead`
(00_scope.md R11, 20_memory.md R163), or by the register map that 60_exceptions.md R741 gives as informative. -/
inductive MiMap where
  | oracle
  | registers
  deriving DecidableEq, Repr, Inhabited

/-- The kind of a row of the routing table (R160): plain memory, the cartridge ROM, or a device whose register block
has `len` bytes (R163). -/
inductive RegionKind where
  | memory
  | rom
  | device (id : DeviceId) (len : Nat)
  deriving DecidableEq, Repr, Inhabited

/-- One row of `PhysMap` (R160): the window `base .. last`, both included. -/
structure Region where
  base : Nat
  last : Nat
  kind : RegionKind
  deriving DecidableEq, Repr, Inhabited

/-- The parameters of 00_scope.md R11 that the step reads. `excluded` lists the mnemonics of the opcode-table rows
outside `Implemented` (R240; NOP is always inside, log 22). -/
structure Params where
  excluded   : List String
  hiloWidth  : HiLoWidth
  misaligned : MisalignedData
  tlbOps     : TlbOps
  trapInsns  : TrapInsns
  divOverflow : DivOverflow
  countShift : Nat
  fcr0       : Word32
  physMap    : List Region
  miMap      : MiMap
  deriving DecidableEq, Repr, Inhabited

/-- A byte that a device puts into a register block (20_memory.md R163, R165): the device whose block it is, the offset
in the block, and the byte. -/
structure RegByte where
  id  : DeviceId
  off : Nat
  val : Byte
  deriving DecidableEq, Repr, Inhabited

/-- What a machine is constructed from (70_reset_and_hazards.md R770 to R775): the parameters above, `RESET_PC`,
`RESET_STATUS`, `RESET_CONFIG`, `PRID_VALUE`, `RESET_GPR`, the bytes of `BOOT_IMAGE` by physical address, the
loader's ROM image, and the devices' own reset states, byte by byte. -/
structure Boot where
  params : Params
  pc     : Word
  status : Word32
  config : Word32
  prid   : Word32
  gpr    : Vector Word 32
  image  : List (Nat × Byte)
  rom    : List Byte
  regs   : List RegByte
  deriving DecidableEq, Repr

/-- The FP operations whose NaN result (`FpNaN`, 46_fpu_convert_compare.md R621) or invalid integer result
(`CvtInvalid`, R623) the spec leaves open, one name for each operation and format. -/
inductive FpOp where
  | addS | addD | subS | subD | mulS | mulD | divS | divD | sqrtS | sqrtD
  | absS | absD | negS | negD | cvtSD | cvtDS
  | cvtWS | cvtWD | cvtLS | cvtLD
  | roundWS | roundWD | truncWS | truncWD | ceilWS | ceilWD | floorWS | floorWD
  | roundLS | roundLD | truncLS | truncLD | ceilLS | ceilLD | floorLS | floorLD
  deriving DecidableEq, Repr, Inhabited

/-- What a device does inside a store to it (20_memory.md R176, 60_exceptions.md R742): the bytes its DMA puts into
memory, the register bytes that it and other devices change, the interrupt controller's new pending bits, and (for the
controller itself only) its new mask bits. -/
structure DeviceEffect where
  dma  : List (Nat × Byte)
  regs : List RegByte
  intr : BitVec 6
  mask : BitVec 6
  deriving DecidableEq, Repr, Inhabited

/-- `FpNaN` for a single result (R621): sign and fraction of the NaN, a function of the operation and its operands'
bits. FREE VALUE (log 9). -/
opaque Config.fpNaN32 : FpOp → Word → Word → BitVec 24

/-- `FpNaN` for a double result (R621). FREE VALUE (log 9). -/
opaque Config.fpNaN64 : FpOp → Word → Word → BitVec 53

/-- `CvtInvalid` for a W result (R623). FREE VALUE (log 10). -/
opaque Config.cvtInvalid32 : FpOp → Word → Word32

/-- `CvtInvalid` for an L result (R623). FREE VALUE (log 10). -/
opaque Config.cvtInvalid64 : FpOp → Word → Word

/-- `RandomDraw` (10_state.md R56), before it is brought into [Wired, 31]; applied to the draw counter of State.
FREE VALUE (log 11). -/
opaque Config.randomDraw : Nat → Nat

/-- Whether the byte at an offset of a device's block belongs to a register that stores its value (20_memory.md R164):
the spec does not say which registers do. FREE VALUE (log 31). -/
opaque Config.storesValue : DeviceId → (offset : Nat) → Bool

/-- `DeviceRead` (20_memory.md R163): what the device answers to the read of `n` bytes at `offset`, in the bytes that it
does not simply store; applied to the draw counter of State. FREE VALUE (log 12). -/
opaque Config.deviceRead : Nat → DeviceId → (offset n : Nat) → Word

/-- What a device does when `n` bytes of `value` are written at `offset` (20_memory.md R163, R176); applied to the
draw counter of State. FREE VALUE (log 13). -/
opaque Config.deviceWrite : Nat → DeviceId → (offset n : Nat) → (value : Word) → DeviceEffect

end Sys2Proof
end

