-- ==== Sys2Proof/Machine/Memory.lean ====
section
/-! DEFINITION. Byte memory: main RAM and the two scratchpads, keyed by physical address (20_memory.md R162, R165),
as a list in one canonical form, with the big-endian accesses of R171 built from single bytes; and the devices'
register blocks (R163 to R165), byte memories too. -/

namespace Sys2Proof.Machine

/-- Memory: (address, byte) pairs, addresses strictly rising, no entry equal to `Memory.blank`. -/
abbrev Memory := List Host.Cell

/-- What an address that is not listed reads as: R165, "RAM, DMEM and IMEM are 0". -/
def Memory.blank : Byte := 0#8

/-- The canonical form. -/
abbrev Memory.wf (m : Memory) : Prop :=
  m.Pairwise (fun c d => c.1 < d.1) ∧ ∀ c ∈ m, c.2 ≠ Memory.blank

/-- The byte at an address. -/
def Memory.byte : Memory → Nat → Byte
  | [], _ => Memory.blank
  | (a, b) :: m, k => if k = a then b else Memory.byte m k

/-- Store one byte, keeping the canonical form: storing the blank byte removes the entry. -/
def Memory.set : Memory → Nat → Byte → Memory
  | [], k, v => if v = Memory.blank then [] else [(k, v)]
  | (a, b) :: m, k, v =>
    if k < a then if v = Memory.blank then (a, b) :: m else (k, v) :: (a, b) :: m
    else if k = a then if v = Memory.blank then m else (k, v) :: m
    else (a, b) :: Memory.set m k v

/-- R171: the `n` bytes from `a` on as a value, the byte at `a` the most significant. -/
def bytesBE (f : Nat → Byte) (a : Nat) : Nat → Word
  | 0 => 0#64
  | n + 1 => (bytesBE f a n <<< 8) ||| (f (a + n)).setWidth 64

/-- The low `n` bytes of a value. -/
def lowBytes (n : Nat) (v : Word) : Word := v &&& BitVec.ofNat 64 (2 ^ (8 * n) - 1)

/-- Byte `k` of the `n` bytes that `v` is written as, byte 0 the most significant (R171). -/
def byteBE (n k : Nat) (v : Word) : Byte := v.extractLsb' (8 * (n - 1 - k)) 8

/-- A read of memory (R162, R171). -/
def Memory.readBE (m : Memory) (a n : Nat) : Word := bytesBE m.byte a n

/-- R171: store the low `n` bytes of `v` from `a` on, the most significant of them at `a`. -/
def Memory.writeBE (m : Memory) (a : Nat) : Nat → Word → Memory
  | 0, _ => m
  | n + 1, v => (Memory.writeBE m a n (v >>> 8)).set (a + n) (v.setWidth 8)

/-- Store a list of bytes, the first first. -/
def Memory.setAll (m : Memory) (cells : List (Nat × Byte)) : Memory :=
  cells.foldl (fun m c => m.set c.1 c.2) m

/-- A read of the ROM image at an offset (R166); no read reaches past its end. -/
def romBE (rom : List Byte) (o n : Nat) : Word := bytesBE (fun k => rom.getD k 0#8) o n

/-! ## The devices' register blocks -/

/-- The register blocks of the devices (20_memory.md R165), one for each device, each a byte memory keyed by the offset
in the block (R164). -/
abbrev Blocks := Vector Memory 10

/-- The block of a device. -/
def Blocks.get (bs : Blocks) (id : DeviceId) : Memory := bs[id.index]

/-- Put one byte into the block of its device. -/
def Blocks.setReg (bs : Blocks) (r : RegByte) : Blocks := bs.set r.id.index ((bs.get r.id).set r.off r.val)

/-- Put bytes into register blocks, the first first. -/
def Blocks.setRegs (bs : Blocks) (l : List RegByte) : Blocks := l.foldl Blocks.setReg bs

end Sys2Proof.Machine
end

