-- ==== Sys2Proof/Machine/ResetValues.lean ====
section
/-! DEFINITION. The values a machine is constructed with: the default routing table (20_memory.md R160), the default
parameters (00_scope.md R11) and the suggested boot state (70_reset_and_hazards.md R771 to R774). -/

namespace Sys2Proof.Machine

/-- The default `PhysMap` of 20_memory.md R160, for a RAM of `ramSize` bytes. The SP row is split in two, as the
note of R160 allows (log 17). -/
def defaultPhysMap (ramSize : Nat) : List Region :=
  [ ⟨0x00000000, ramSize - 1, .memory⟩,
    ⟨0x04000000, 0x04000FFF, .memory⟩,
    ⟨0x04001000, 0x04001FFF, .memory⟩,
    ⟨0x04040000, 0x0407FFFF, .device .sp 0x20⟩,
    ⟨0x04080000, 0x040FFFFF, .device .spPc 0x4⟩,
    ⟨0x04100000, 0x041FFFFF, .device .dp 0x20⟩,
    ⟨0x04300000, 0x043FFFFF, .device .mi 0x10⟩,
    ⟨0x04400000, 0x044FFFFF, .device .vi 0x38⟩,
    ⟨0x04500000, 0x045FFFFF, .device .ai 0x18⟩,
    ⟨0x04600000, 0x046FFFFF, .device .pi 0x34⟩,
    ⟨0x04700000, 0x047FFFFF, .device .ri 0x20⟩,
    ⟨0x04800000, 0x048FFFFF, .device .si 0x1C⟩,
    ⟨0x10000000, 0x1FBFFFFF, .rom⟩,
    ⟨0x1FC007C0, 0x1FC007FF, .device .pif 0x40⟩ ]

/-- The defaults of 00_scope.md R11, letter for letter. The rows of class `excluded` are the 14 that `TRAP_INSNS = halt`
excludes (30_encoding.md R240), so no other row is listed. -/
def defaultParams : Params where
  excluded    := []
  hiloWidth   := .w32
  misaligned  := .halt
  tlbOps      := .nop
  trapInsns   := .halt
  divOverflow := .halt
  countShift  := 1
  fcr0        := 0x00000A00#32
  physMap     := defaultPhysMap 0x00800000
  miMap       := .oracle

/-- The parameters at reset: the defaults of 00_scope.md R11, but where a parameter chooses between a halt and an
effect (`TRAP_INSNS`, `DIV_OVERFLOW`, `MISALIGNED_DATA`): there the effect. DESIGN CHOICE (log 2), unsafe; the
claims about the model are made for every choice. -/
def resetParams : Params :=
  { defaultParams with misaligned := .bytewise, trapInsns := .raise, divOverflow := .mips }

/-- `RESET_PC`: the suggested value of R771. DESIGN CHOICE (log 3), unsafe. -/
def resetPc : Word := 0xFFFFFFFFA4000040#64

/-- `RESET_STATUS`: the suggested value of R774. DESIGN CHOICE (log 4), unsafe. -/
def resetStatus : Word32 := 0x34000000#32

/-- `RESET_CONFIG`: the suggested value of R774. DESIGN CHOICE (log 4), unsafe. -/
def resetConfig : Word32 := 0x7006E463#32

/-- `PRID_VALUE`: the default of R770 (log 7). -/
def resetPrid : Word32 := 0x00000B22#32

/-- `RESET_GPR`: the suggested values of R772, 0 elsewhere (R45). DESIGN CHOICE (log 5), unsafe. -/
def resetGpr : Vector Word 32 :=
  ((((((((Vector.replicate 32 0#64).set 11 0xFFFFFFFFA4000040#64).set 19 0#64).set 20 1#64).set 21 0#64).set 22
    0x3F#64).set 23 0#64).set 29 0xFFFFFFFFA4001FF0#64).set 31 0xFFFFFFFFA4001550#64

/-- The suggested `BOOT_IMAGE` (R773): the first 0x1000 bytes of the ROM image, copied to SP DMEM. -/
def bootImage (rom : List Byte) : List (Nat × Byte) :=
  (rom.take 0x1000).zipIdx.map fun (b, i) => (0x04000000 + i, b)

/-- The suggested boot state for a given ROM image (R771 to R774); the devices' registers are 0 (log 28). -/
def suggestedBoot (rom : List Byte) : Boot where
  params := resetParams
  pc     := resetPc
  status := resetStatus
  config := resetConfig
  prid   := resetPrid
  gpr    := resetGpr
  image  := bootImage rom
  rom    := rom
  regs   := []

end Sys2Proof.Machine
end

