-- ==== Sys2Proof/Machine/State.lean ====
section
/-! DEFINITION. The machine's state as plain data (10_state.md R40, 20_memory.md R165), the halt reasons (R48), and
the state after construction (70_reset_and_hazards.md R770). -/

namespace Sys2Proof.Machine

/-- The countdown of the delayed-branch slot (10_state.md R50): in {1, 2}. -/
inductive Countdown where
  | one
  | two
  deriving DecidableEq, Repr, Inhabited

/-- A recorded delayed branch (R50). -/
structure Pending where
  target    : Word
  countdown : Countdown
  deriving DecidableEq, Repr, Inhabited

/-- The halt reasons of 10_state.md R48. All are the spec's own halts, so each is SAFE in itself; the three that a
parameter can turn into an effect say so. -/
inductive Fault where
  /-- Raised by the step for a decode-table miss or a row outside `Implemented` (30_encoding.md R240, R241), with the
  word. Safe. -/
  | unimplemented (w : Word32)
  /-- Raised by fetch, loads and stores for a virtual address outside KSEG0 and KSEG1 (20_memory.md R150). Safe. -/
  | unmappedVirtual (va : Word)
  /-- Raised by fetch, loads and stores for a physical address in no row, past the end of its memory row, or past the
  ROM image (R161, R166). Safe. -/
  | unmappedPhysical (pa : Nat)
  /-- Raised by fetch (R173), and by loads and stores under `MISALIGNED_DATA = halt` (R172). Safe. -/
  | misaligned (va : Word) (n : Nat)
  /-- Raised by a jump, branch or ERET in a delay slot (40_cycle.md R275), with its address. Safe. -/
  | delaySlotCTI (ia : Word)
  /-- Raised by a store to the cartridge ROM (20_memory.md R166). Safe. -/
  | readOnlyWrite (pa : Nat)
  /-- Raised by a 64-bit access to an odd COP1 register when FR = 0 (10_state.md R113, R114). Safe. -/
  | oddFprPair (n : Reg)
  /-- Raised by DIV and DDIV of the most negative value by -1 under `DIV_OVERFLOW = halt` (41_integer.md R342, R346).
  Safe. -/
  | divOverflow (ia : Word)
  /-- Raised by a read of Random when Wired > 31 (10_state.md R56). Safe. -/
  | randomRange
  deriving DecidableEq, Repr

/-- Why the model has no meaning for an instruction. -/
inductive Refusal where
  /-- Raised by `exec` for an instruction that has no meaning yet. Safe. No arm answers it. -/
  | notModelled (mnemonic : String)
  deriving DecidableEq, Repr

/-- What the environment does between two steps (40_cycle.md R282, 60_exceptions.md R740): new pending bits or new mask
bits of the interrupt controller, if it changes them, and the device registers that it changes. -/
structure EnvAction where
  intr : Option (BitVec 6) := none
  mask : Option (BitVec 6) := none
  regs : List RegByte := []
  deriving DecidableEq, Repr, Inhabited

/-- The machine's state. -/
structure State where
  /-- General registers (R41); cell 0 is never read or written. -/
  regs   : Vector Word 32
  /-- HI (R46): its low `HILO_W` bits count (log 23). -/
  hi     : Word
  /-- LO (R46). -/
  lo     : Word
  /-- The program counter (R49). -/
  pc     : Word
  /-- The delayed-branch slot (R50). -/
  pending : Option Pending
  /-- COP0 (R52), by number; cells 1 (Random) and 9 (Count) are not used (log 24). -/
  cp0    : Vector Word32 32
  /-- The tick counter (R58). -/
  ticks  : Word
  /-- The COP1 register file (R110). -/
  slots  : Vector Word 32
  /-- FCSR (R115). -/
  fcr31  : Word32
  /-- The load-linked flag (R51). -/
  llbit  : Bool
  /-- The halt state (R48, 40_cycle.md R280). -/
  halted : Option Fault
  /-- Main RAM and the scratchpads, by physical address (20_memory.md R162). -/
  mem    : Memory
  /-- The ROM image (20_memory.md R166). -/
  rom    : List Byte
  /-- The devices' register blocks, PIF RAM among them (20_memory.md R165, R40). -/
  blocks : Blocks
  /-- MI_INTR, the interrupt controller's pending bits (60_exceptions.md R740, R741). -/
  miIntr : BitVec 6
  /-- MI_MASK, its mask bits (R740, R741). -/
  miMask : BitVec 6
  /-- The model's own: what the environment does before the steps to come, the next one first (log 16). -/
  env    : List EnvAction
  /-- The model's own: the counter that the free values are applied to (log 11). -/
  draws  : Nat
  /-- The parameters of 00_scope.md R11; no step writes them (log 1). -/
  params : Params
  deriving DecidableEq, Repr

/-- The state after construction from `b` (70_reset_and_hazards.md R770). -/
def State.ofBoot (b : Boot) : State where
  regs    := b.gpr
  hi      := 0#64
  lo      := 0#64
  pc      := b.pc
  pending := none
  cp0     := (((Vector.replicate 32 0#32).set 12 b.status).set 15 b.prid).set 16 b.config
  ticks   := 0#64
  slots   := Vector.replicate 32 0#64
  fcr31   := 0#32
  llbit   := false
  halted  := none
  mem     := Memory.setAll [] b.image
  rom     := b.rom
  blocks  := Blocks.setRegs (Vector.replicate 10 []) b.regs
  miIntr  := 0#6
  miMask  := 0#6
  env     := []
  draws   := 0
  params  := b.params

/-- The machine right after reset: the suggested boot state, with no ROM image loaded (logs 2 to 7). -/
def State.reset : State := State.ofBoot (suggestedBoot [])

/-- The same machine constructed with every parameter at the default of 00_scope.md R11 (log 2). -/
def State.resetWithDefaults : State := State.ofBoot { suggestedBoot [] with params := defaultParams }

end Sys2Proof.Machine
end

