-- ==== Sys2Proof/Machine/Flags.lean ====
section
/-! DEFINITION. Bits and fields of Status, Cause and FCSR (10_state.md R53, R54, R115), the aggregate bit
(60_exceptions.md R740), and the FP condition (46_fpu_convert_compare.md R656). -/

namespace Sys2Proof.Machine

/-- Bit `n` of a 32-bit register. -/
def bit (w : Word32) (n : Nat) : Bool := w.getLsbD n

/-- The bits of `v` where `mask` has a 1, those of `w` elsewhere. -/
def withMask (w mask v : Word32) : Word32 := (w &&& ~~~mask) ||| (v &&& mask)

/-- Set bit `n` to `b`, leaving the others. -/
def setBit (w : Word32) (n : Nat) (b : Bool) : Word32 :=
  withMask w (1#32 <<< n) (if b then 1#32 <<< n else 0#32)

/-! ## Status (R53) -/

/-- IE, bit 0. -/
def Status.ie (w : Word32) : Bool := bit w 0
/-- EXL, bit 1. -/
def Status.exl (w : Word32) : Bool := bit w 1
/-- ERL, bit 2. -/
def Status.erl (w : Word32) : Bool := bit w 2
/-- BEV, bit 22. -/
def Status.bev (w : Word32) : Bool := bit w 22
/-- FR, bit 26. -/
def Status.fr (w : Word32) : Bool := bit w 26
/-- CU1, bit 29. -/
def Status.cu1 (w : Word32) : Bool := bit w 29
/-- Status with EXL replaced. -/
def Status.setExl (w : Word32) (b : Bool) : Word32 := setBit w 1 b
/-- Status with ERL replaced. -/
def Status.setErl (w : Word32) (b : Bool) : Word32 := setBit w 2 b

/-- 60_exceptions.md R720: IE = 1, EXL = 0 and ERL = 0. -/
def Status.interruptsEnabled (w : Word32) : Bool := Status.ie w && !Status.exl w && !Status.erl w

/-! ## Cause (R54) -/

/-- Cause after exception entry (60_exceptions.md R710): BD (31), CE (29:28) and ExcCode (6:2) written. -/
def Cause.entry (w : Word32) (code : BitVec 5) (ce : BitVec 2) (bd : Bool) : Word32 :=
  withMask w 0xB000007C#32 (BitVec.ofBool bd ++ 0#1 ++ ce ++ 0#21 ++ code ++ 0#2)

/-- Cause after MTC0 (44_cop0_system.md R500): bits 9:8 only. -/
def Cause.software (w v : Word32) : Word32 := withMask w 0x00000300#32 v

/-- Cause with the timer interrupt, bit 15, replaced. -/
def Cause.setTimer (w : Word32) (b : Bool) : Word32 := setBit w 15 b

/-- Cause with the interrupt controller's aggregate, bit 10, replaced. -/
def Cause.setAggregate (w : Word32) (b : Bool) : Word32 := setBit w 10 b

/-- 60_exceptions.md R740: the aggregation law. -/
def aggregate (intr mask : BitVec 6) : Bool := (intr &&& mask) != 0#6

/-- 60_exceptions.md R720: an interrupt is pending and enabled. -/
def interruptTaken (status cause : Word32) : Bool :=
  Status.interruptsEnabled status && ((cause &&& status) &&& 0xFF00#32) != 0#32

/-! ## FCSR (R115) -/

/-- RM, bits 1:0. -/
def Fcsr.rm (w : Word32) : BitVec 2 := w.extractLsb' 0 2
/-- The condition C, bit 23. -/
def Fcsr.cond (w : Word32) : Bool := bit w 23
/-- FCSR with the condition replaced. -/
def Fcsr.setCond (w : Word32) (b : Bool) : Word32 := setBit w 23 b

/-- How two operands compare (46_fpu_convert_compare.md R656). -/
inductive FpOrder where
  | lt
  | eq
  | gt
  | un
  deriving DecidableEq, Repr

/-- 46_fpu_convert_compare.md R656: the condition bit of C.cond, `c` = funct - 0x30. -/
def fpCondition (c : BitVec 4) (o : FpOrder) : Bool :=
  (c.getLsbD 0 && o == .un) || (c.getLsbD 1 && o == .eq) || (c.getLsbD 2 && o == .lt)

end Sys2Proof.Machine
end

