-- ==== Sys2Proof/Machine/Ops.lean ====
section
/-! DEFINITION. The named operations over registers, taking an exception and returning from one, and the delayed-branch
slot. -/

namespace Sys2Proof.Machine

/-- What an instruction ends in. -/
abbrev Result := Host.Outcome State Fault Refusal

/-- Go on with the value, or halt. -/
def orFault {α : Type} (r : Except Fault α) (k : α → Result) : Result :=
  match r with
  | .ok a => k a
  | .error f => .fault f

/-! ## General registers -/

/-- 10_state.md R41: a read; register 0 reads 0. -/
def State.gpr (s : State) (r : Reg) : Word :=
  if r = 0#5 then 0#64 else s.regs[r.toNat]'(by have := r.isLt; omega)

/-- 10_state.md R41: a write; a write to register 0 changes nothing. -/
def State.setGpr (s : State) (r : Reg) (v : Word) : State :=
  { s with regs := if r = 0#5 then s.regs else s.regs.set r.toNat v (by have := r.isLt; omega) }

/-- R42: a 32-bit value as it is stored in a general register. -/
def sext32 (v : Word32) : Word := v.signExtend 64

/-- The low half of a register, as a 32-bit operation reads it (41_integer.md R300). -/
def low32 (v : Word) : Word32 := v.setWidth 32

/-- The register that JAL and the REGIMM link forms write (42_branch_jump.md R402). -/
def linkReg : Reg := 31#5

/-! ## HI and LO -/

/-- 10_state.md R47: what a write stores. -/
def HiLo.trunc (w : HiLoWidth) (v : Word) : Word :=
  match w with
  | .w32 => (low32 v).setWidth 64
  | .w64 => v

/-- 10_state.md R47: what a read into a general register gives. -/
def HiLo.extend (w : HiLoWidth) (c : Word) : Word :=
  match w with
  | .w32 => sext32 (low32 c)
  | .w64 => c

/-- R47: `HI <- v`. -/
def State.setHi (s : State) (v : Word) : State := { s with hi := HiLo.trunc s.params.hiloWidth v }

/-- R47: `LO <- v`. -/
def State.setLo (s : State) (v : Word) : State := { s with lo := HiLo.trunc s.params.hiloWidth v }

/-- R47: HI as a general register receives it. -/
def State.readHi (s : State) : Word := HiLo.extend s.params.hiloWidth s.hi

/-- R47: LO as a general register receives it. -/
def State.readLo (s : State) : Word := HiLo.extend s.params.hiloWidth s.lo

/-! ## COP0 registers (10_state.md R52) -/

/-- Random. -/
def Cop0.random : Reg := 1#5
/-- Wired. -/
def Cop0.wired : Reg := 6#5
/-- BadVAddr. -/
def Cop0.badVAddr : Reg := 8#5
/-- Count. -/
def Cop0.count : Reg := 9#5
/-- Compare. -/
def Cop0.compare : Reg := 11#5
/-- Status. -/
def Cop0.status : Reg := 12#5
/-- Cause. -/
def Cop0.cause : Reg := 13#5
/-- EPC. -/
def Cop0.epc : Reg := 14#5
/-- PRId. -/
def Cop0.prid : Reg := 15#5
/-- LLAddr. -/
def Cop0.llAddr : Reg := 17#5
/-- ErrorEPC. -/
def Cop0.errorEpc : Reg := 30#5

/-- The stored COP0 register `r`. -/
def State.cop0 (s : State) (r : Reg) : Word32 := s.cp0[r.toNat]'(by have := r.isLt; omega)

/-- Store COP0 register `r`. -/
def State.setCop0 (s : State) (r : Reg) (v : Word32) : State :=
  { s with cp0 := s.cp0.set r.toNat v (by have := r.isLt; omega) }

/-- Status. -/
def State.status (s : State) : Word32 := s.cop0 Cop0.status

/-- Cause. -/
def State.cause (s : State) : Word32 := s.cop0 Cop0.cause

/-- 10_state.md R58: Count, as the tick counter gives it. -/
def State.count (s : State) : Word32 := (s.ticks >>> s.params.countShift).setWidth 32

/-- 10_state.md R56: one of the integers in [wired, 31], chosen by the free draw `d`. -/
def randomValue (wired : Word32) (d : Nat) : Word32 :=
  BitVec.ofNat 32 (wired.toNat + d % (32 - wired.toNat))

/-- 44_cop0_system.md R500: `cp0_read`. A read of Random draws. -/
def cop0Read (r : Reg) (s : State) : Except Fault (Word32 × State) :=
  if r = Cop0.random then
    if 31 < (s.cop0 Cop0.wired).toNat then .error .randomRange
    else .ok (randomValue (s.cop0 Cop0.wired) (Config.randomDraw s.draws), { s with draws := s.draws + 1 })
  else if r = Cop0.count then .ok (s.count, s)
  else .ok (s.cop0 r, s)

/-- 44_cop0_system.md R500: `cp0_write`. -/
def cop0Write (r : Reg) (v : Word32) (s : State) : State :=
  if r = Cop0.random ∨ r = Cop0.badVAddr ∨ r = Cop0.prid then s
  else if r = Cop0.count then { s with ticks := v.setWidth 64 <<< s.params.countShift }
  else if r = Cop0.compare then
    (s.setCop0 Cop0.compare v).setCop0 Cop0.cause (Cause.setTimer s.cause false)
  else if r = Cop0.cause then s.setCop0 Cop0.cause (Cause.software s.cause v)
  else s.setCop0 r v

/-- 60_exceptions.md R740: bring Cause bit 10 in line with the interrupt controller. -/
def syncAggregate (s : State) : State :=
  s.setCop0 Cop0.cause (Cause.setAggregate s.cause (aggregate s.miIntr s.miMask))

/-! ## COP1 registers (10_state.md R110 to R114) -/

/-- Slot `n` of the COP1 file. -/
def State.slot (s : State) (n : Reg) : Word := s.slots[n.toNat]'(by have := n.isLt; omega)

/-- Store slot `n`. -/
def State.setSlot (s : State) (n : Reg) (v : Word) : State :=
  { s with slots := s.slots.set n.toNat v (by have := n.isLt; omega) }

/-- Status.FR, read at each access (R110). -/
def State.fr (s : State) : Bool := Status.fr s.status

/-- R111: a 32-bit read. -/
def State.fpr32 (s : State) (n : Reg) : Word32 := (s.slot n).setWidth 32

/-- R112: a 32-bit write; the slot's upper half stays. -/
def State.setFpr32 (s : State) (n : Reg) (v : Word32) : State :=
  s.setSlot n ((s.slot n).extractLsb' 32 32 ++ v)

/-- R113, R114: whether a 64-bit access to register `n` is allowed. -/
def State.pairOk (s : State) (n : Reg) : Bool := s.fr || !n.getLsbD 0

/-- R113: a 64-bit read, of a register that `pairOk` allows. -/
def State.fpr64 (s : State) (n : Reg) : Word :=
  if s.fr then s.slot n else s.fpr32 (n + 1#5) ++ s.fpr32 n

/-- R114: a 64-bit write, of a register that `pairOk` allows. -/
def State.setFpr64 (s : State) (n : Reg) (v : Word) : State :=
  if s.fr then s.setSlot n v
  else (s.setFpr32 n (v.setWidth 32)).setFpr32 (n + 1#5) (v.extractLsb' 32 32)

/-- R113, R114, R552: halt for the first register of the list that a 64-bit access may not use (log 19). -/
def needPairs (ns : List Reg) (s : State) (r : Result) : Result :=
  match ns.find? fun n => !s.pairOk n with
  | some n => .fault (.oddFprPair n)
  | none => r

/-! ## Exceptions (60_exceptions.md) -/

/-- R711: the exception vector. -/
def exceptionVector (bev : Bool) : Word :=
  if bev then 0xFFFFFFFFBFC00380#64 else 0xFFFFFFFF80000180#64

/-- R710: exception entry. `ret` is the return address of R712. -/
def exceptionEntry (code : BitVec 5) (ce : BitVec 2) (ret : Word) (inDelay : Bool) (s : State) : State :=
  { ((s.setCop0 Cop0.cause (Cause.entry s.cause code ce inDelay)).setCop0 Cop0.epc
      (low32 (if inDelay then ret - 4#64 else ret))).setCop0 Cop0.status (Status.setExl s.status true) with
    pc := exceptionVector (Status.bev s.status)
    pending := none }

/-- The address of the running instruction: execute sees `pc = ia + 4` (40_cycle.md R264). -/
def State.ia (s : State) : Word := s.pc - 4#64

/-- 40_cycle.md R267: the running instruction is in a delay slot. -/
def State.inDelay (s : State) : Bool := s.pending.isSome

/-- A synchronous exception of the running instruction (R712). -/
def raiseExc (code : BitVec 5) (ce : BitVec 2) (s : State) : Result :=
  .next (exceptionEntry code ce s.ia s.inDelay s)

/-- 60_exceptions.md R701: coprocessor unusable. -/
def ExcCode.cpU : BitVec 5 := 11#5
/-- R701: system call. -/
def ExcCode.sys : BitVec 5 := 8#5
/-- R701: breakpoint. -/
def ExcCode.bp : BitVec 5 := 9#5
/-- R701: trap. -/
def ExcCode.tr : BitVec 5 := 13#5
/-- R701: interrupt. -/
def ExcCode.int : BitVec 5 := 0#5

/-- 44_cop0_system.md R510: the return from an exception (without its delay-slot check). -/
def returnFromException (s : State) : State :=
  if Status.erl s.status then
    { s.setCop0 Cop0.status (Status.setErl s.status false) with
      pc := sext32 (s.cop0 Cop0.errorEpc)
      llbit := false }
  else
    { s.setCop0 Cop0.status (Status.setExl s.status false) with
      pc := sext32 (s.cop0 Cop0.epc)
      llbit := false }

/-- 45_fpu_move_arith.md R550: the COP1 usability check before `r`. -/
def withCop1 (s : State) (r : Result) : Result :=
  if Status.cu1 s.status then r else raiseExc ExcCode.cpU 1#2 s

/-- A trap of 44_cop0_system.md R537 to R548, under `TRAP_INSNS = raise` (log 22). -/
def trapIf (c : Bool) (s : State) : Result :=
  if c then raiseExc ExcCode.tr 0#2 s else .next s

/-! ## Control transfer (40_cycle.md R270 to R275) -/

/-- R275: a control transfer in a delay slot halts; otherwise `r`. -/
def controlTransfer (s : State) (r : Result) : Result :=
  if s.inDelay then .fault (.delaySlotCTI s.ia) else r

/-- R270: `delay_branch`. -/
def delayBranch (t : Word) (s : State) : State := { s with pending := some ⟨t, .two⟩ }

/-- R274: `skip_delay_slot`. -/
def skipDelaySlot (s : State) : State := { s with pc := s.pc + 4#64 }

/-- 42_branch_jump.md R402: the return address, `ia + 8`. -/
def State.link (s : State) : Word := s.pc + 4#64

/-- R403: the outcome of an ordinary branch. -/
def branchIf (c : Bool) (t : Word) (s : State) : State := if c then delayBranch t s else s

/-- R403: the outcome of a branch-likely. -/
def branchLikely (c : Bool) (t : Word) (s : State) : State := if c then delayBranch t s else skipDelaySlot s

/-- 40_cycle.md R271: phase 5 of the step. -/
def resolveBranch (s : State) : State :=
  match s.pending with
  | none => s
  | some ⟨t, .two⟩ => { s with pending := some ⟨t, .one⟩ }
  | some ⟨t, .one⟩ => { s with pc := t, pending := none }

end Sys2Proof.Machine
end

