-- ==== Sys2Proof/Machine/Operands.lean ====
section
/-! DEFINITION. Immediates, shift amounts, branch and jump targets, effective addresses (30_encoding.md R205). -/

namespace Sys2Proof.Machine

/-- A signed immediate or an offset: `sext_64(imm)`. -/
def immS (imm : Half) : Word := imm.signExtend 64

/-- A logical immediate: `zext_64(imm)`. -/
def immZ (imm : Half) : Word := imm.setWidth 64

/-- The upper immediate of LUI: `sext_64(imm ++ 0x0000)`. -/
def immUpper (imm : Half) : Word := sext32 (imm ++ 0#16)

/-- A constant shift amount, 0..31. -/
def shamt (sa : BitVec 5) : Nat := sa.toNat

/-- A constant shift amount plus 32, 32..63. -/
def shamt32 (sa : BitVec 5) : Nat := sa.toNat + 32

/-- A variable 32-bit shift amount: `x[rs][4:0]`. -/
def amount5 (v : Word) : Nat := (v.extractLsb' 0 5).toNat

/-- A variable 64-bit shift amount: `x[rs][5:0]`. -/
def amount6 (v : Word) : Nat := (v.extractLsb' 0 6).toNat

/-- 42_branch_jump.md R400: the target of a conditional branch. -/
def State.branchTarget (s : State) (off : Half) : Word := s.pc + (off ++ 0#2).signExtend 64

/-- 42_branch_jump.md R401: the target of J and JAL. -/
def State.jumpTarget (s : State) (target : BitVec 26) : Word := s.pc.extractLsb' 28 36 ++ target ++ 0#2

/-- 43_load_store.md R450: the effective address. -/
def State.effAddr (s : State) (base : Reg) (offset : Half) : Word := s.gpr base + immS offset

/-- 43_load_store.md R454: `k = va mod n`, for `n` = 4 or 8. -/
def unitOffset (n : Nat) (va : Word) : Nat := va.toNat % n

/-- 43_load_store.md R454: the address of the aligned unit of `n` bytes that holds `va`. -/
def unitBase (n : Nat) (va : Word) : Word := va - BitVec.ofNat 64 (unitOffset n va)

end Sys2Proof.Machine
end

