-- ==== Sys2Proof/Machine/Bus.lean ====
section
/-! DEFINITION. Memory access: translation (20_memory.md R150), routing (R161), alignment (R172), reads and writes of
memory, ROM and device rows (R162, R163, R166, R176), and the interrupt controller's registers (60_exceptions.md R741,
log 14). -/

namespace Sys2Proof.Machine

/-- R150: translation of a virtual address. -/
def translateAddr (va : Word) : Except Fault Nat :=
  let a := (low32 va).toNat
  if a < 0x80000000 then .error (.unmappedVirtual va)
  else if a < 0xA0000000 then .ok (a - 0x80000000)
  else if a < 0xC0000000 then .ok (a - 0xA0000000)
  else .error (.unmappedVirtual va)

/-- The window of the row contains the address. -/
def inWindow (r : Region) (pa : Nat) : Bool := decide (r.base ≤ pa) && decide (pa ≤ r.last)

/-- R161: the row of an address. -/
def route (m : List Region) (pa : Nat) : Option Region := m.find? fun r => inWindow r pa

/-- Whether the row is a device's. -/
def isDeviceKind : RegionKind → Bool
  | .device _ _ => true
  | .memory => false
  | .rom => false

/-- R172: an access of `n` bytes is aligned. -/
def aligned (n : Nat) (va : Word) : Bool := va.toNat % n == 0

/-- A checked access: its physical address, its row, and whether it is one bus access or one for each byte (R172). -/
structure Access where
  pa    : Nat
  row   : Region
  whole : Bool
  deriving DecidableEq, Repr

/-- R161, R172: the checks of an `n`-byte access, in the order of 43_load_store.md R451: alignment, translation,
routing. A bytewise access lies within one row (log 18); an aligned access to a device row is checked by the device. -/
def access (n : Nat) (va : Word) (s : State) : Except Fault Access :=
  if !aligned n va && s.params.misaligned == .halt then .error (.misaligned va n)
  else
    match translateAddr va with
    | .error f => .error f
    | .ok pa =>
      match route s.params.physMap pa with
      | none => .error (.unmappedPhysical pa)
      | some row =>
        if pa + n - 1 ≤ row.last ∨ (aligned n va && isDeviceKind row.kind) = true then
          .ok ⟨pa, row, aligned n va⟩
        else .error (.unmappedPhysical (pa + n - 1))

/-- R166, 43_load_store.md R451: the checks of a store; ROM cannot be written. -/
def storeAccess (n : Nat) (va : Word) (s : State) : Except Fault Access :=
  match access n va s with
  | .error f => .error f
  | .ok a => if a.row.kind = .rom then .error (.readOnlyWrite a.pa) else .ok a

/-! ## Devices -/

/-- Byte `k` of a 32-bit register that stands big-endian in a device block (R164). -/
def regByte (v : Word32) (k : Nat) : Byte := v.extractLsb' (8 * (3 - k)) 8

/-- The register block of a device (R165). -/
def State.block (s : State) (id : DeviceId) : Memory := s.blocks.get id

/-- R163, R164: byte `k` of a device's block, as a read of `n` bytes at `off` sees it: the byte held, where the register
stores its value, and the device's own answer elsewhere. -/
def blockByte (id : DeviceId) (off n : Nat) (s : State) (k : Nat) : Byte :=
  if Config.storesValue id k then (s.block id).byte k else byteBE n (k - off) (Config.deviceRead s.draws id off n)

/-- 60_exceptions.md R741: byte `k` of the interrupt controller's block; `mode` is what the bytes of MI_MODE read as. -/
def miByte (mode : Nat → Byte) (intr mask : BitVec 6) (k : Nat) : Byte :=
  if k < 4 then mode k
  else if k < 8 then regByte 0x02020102#32 (k - 4)
  else if k < 12 then regByte (intr.setWidth 32) (k - 8)
  else regByte (mask.setWidth 32) (k - 12)

/-- Whether the device's reads and writes follow the register map of 60_exceptions.md R741 (log 14). -/
def mappedMi (id : DeviceId) (s : State) : Bool := id == .mi && s.params.miMap == .registers

/-- R163: what a device answers to a read of `n` bytes at `off`, inside its block, big-endian (R164). -/
def deviceAnswer (id : DeviceId) (off n : Nat) (s : State) : Word :=
  bytesBE (if mappedMi id s then miByte (blockByte id off n s) s.miIntr s.miMask else blockByte id off n s) off n

/-- R163: a read of a device row; past the block it is 0. -/
def deviceRead (id : DeviceId) (len off n : Nat) (s : State) : Word × State :=
  if len < off + n then (0#64, s) else (deviceAnswer id off n s, { s with draws := s.draws + 1 })

/-- R741: the bits of MI_MASK that a 32-bit write clears: the even bits of the low 12. -/
def miClear (v : Word32) : BitVec 6 :=
  BitVec.ofBool (bit v 10) ++ BitVec.ofBool (bit v 8) ++ BitVec.ofBool (bit v 6) ++ BitVec.ofBool (bit v 4)
    ++ BitVec.ofBool (bit v 2) ++ BitVec.ofBool (bit v 0)

/-- R741: the bits of MI_MASK that a 32-bit write sets: the odd bits of the low 12. -/
def miSet (v : Word32) : BitVec 6 :=
  BitVec.ofBool (bit v 11) ++ BitVec.ofBool (bit v 9) ++ BitVec.ofBool (bit v 7) ++ BitVec.ofBool (bit v 5)
    ++ BitVec.ofBool (bit v 3) ++ BitVec.ofBool (bit v 1)

/-- R741: MI_MASK after a 32-bit write of `v` to it. Where a bit is both cleared and set the result is the free
value's (log 15). -/
def miNewMask (v : Word32) (mask free : BitVec 6) : BitVec 6 :=
  if miClear v &&& miSet v = 0#6 then (mask &&& ~~~miClear v) ||| miSet v
  else (((mask &&& ~~~miClear v) ||| miSet v) &&& ~~~(miClear v &&& miSet v)) ||| (free &&& (miClear v &&& miSet v))

/-- The DP bit of MI_INTR. -/
def miDp : BitVec 6 := 0x20#6

/-- R741: a write of `n` bytes at `off` of the interrupt controller: its new pending and mask bits. A write that is not
of one whole register leaves what it touches to the free value `e` (log 15). -/
def miWrite (off n : Nat) (v : Word) (intr mask : BitVec 6) (e : DeviceEffect) : BitVec 6 × BitVec 6 :=
  if n = 4 ∧ off = 0 then (if bit (low32 v) 11 then intr &&& ~~~miDp else intr, mask)
  else if n = 4 ∧ off = 12 then (intr, miNewMask (low32 v) mask e.mask)
  else (if off < 4 then intr &&& (e.intr ||| ~~~miDp) else intr, if 12 < off + n then e.mask else mask)

/-- The interrupt controller's pending and mask bits after a write of `n` bytes at `off` of its block: by the register
map (log 14), or whatever the device does (log 13). -/
def miAfter (off n : Nat) (v : Word) (e : DeviceEffect) (s : State) : BitVec 6 × BitVec 6 :=
  match s.params.miMap with
  | .registers => miWrite off n v s.miIntr s.miMask e
  | .oracle => (e.intr, e.mask)

/-- The `n` bytes of `v` in a device's block from `off` on, the most significant first (R164, R171). -/
def storedBytes (id : DeviceId) (off n : Nat) (v : Word) : List RegByte :=
  (List.range n).map fun k => ⟨id, off + k, byteBE n k v⟩

/-- Whether a byte is one that a write of `n` bytes at `off` of the device has put into a register that stores its value
(R164). -/
def justStored (id : DeviceId) (off n : Nat) (r : RegByte) : Bool :=
  r.id == id && decide (off ≤ r.off) && decide (r.off < off + n) && Config.storesValue id r.off

/-- R163 to R165: the register blocks after a write of `n` bytes of `v` at `off`: the bytes written, then whatever the
devices change, but for the bytes that a storing register has just taken in this write. DESIGN CHOICE (log 31). -/
def blocksAfter (id : DeviceId) (off n : Nat) (v : Word) (e : DeviceEffect) (bs : Blocks) : Blocks :=
  bs.setRegs (storedBytes id off n v ++ e.regs.filter fun r => !justStored id off n r)

/-- Whether an address lies in a memory row. -/
def inMemory (m : List Region) (pa : Nat) : Bool :=
  match route m pa with
  | some r => r.kind == .memory
  | none => false

/-- R163, R176, 60_exceptions.md R742: a write of `n` bytes to a device row: new register contents, a DMA into memory
rows, new pending bits, and the aggregate in Cause (log 13); past the block nothing. -/
def deviceWrite (id : DeviceId) (len off n : Nat) (v : Word) (s : State) : State :=
  if len < off + n then s
  else
    let e := Config.deviceWrite s.draws id off n v
    match id with
    | .mi =>
      let im := miAfter off n v e s
      syncAggregate
        { s with
          blocks := blocksAfter .mi off n v e s.blocks
          miIntr := im.1
          miMask := im.2
          draws := s.draws + 1 }
    | _ =>
      syncAggregate
        { s with
          mem := s.mem.setAll (e.dma.filter fun c => inMemory s.params.physMap c.1)
          blocks := blocksAfter id off n v e s.blocks
          miIntr := e.intr
          draws := s.draws + 1 }

/-- R172: a device read, byte by byte, in increasing order. -/
def deviceReadBytes (id : DeviceId) (len off : Nat) : Nat → State → Word × State
  | 0, s => (0#64, s)
  | n + 1, s =>
    let (v, s1) := deviceReadBytes id len off n s
    let (b, s2) := deviceRead id len (off + n) 1 s1
    ((v <<< 8) ||| b, s2)

/-- R172: a device write of `n` bytes of `v`, byte by byte, in increasing order: the first `k` of them. Each byte is a
bus write of its own, so the device's effect at a later byte may override an earlier byte in a register that stores its
value. DESIGN CHOICE (log 31). -/
def deviceWriteBytes (id : DeviceId) (len off n : Nat) (v : Word) : Nat → State → State
  | 0, s => s
  | k + 1, s =>
    deviceWrite id len (off + k) 1 ((byteBE n k v).setWidth 64) (deviceWriteBytes id len off n v k s)

/-! ## Reads and writes -/

/-- The address that a read of ROM past the end of the image halts with (R166): the access's own; byte by byte, the
first byte that is missing. -/
def romMissing (a : Access) (size : Nat) : Nat := if a.whole then a.pa else max a.pa (a.row.base + size)

/-- The bus read of a checked access (R162, R163, R166). -/
def readAt (n : Nat) (a : Access) (s : State) : Except Fault (Word × State) :=
  match a.row.kind with
  | .memory => .ok (s.mem.readBE a.pa n, s)
  | .rom =>
    if a.pa - a.row.base + n ≤ s.rom.length then .ok (romBE s.rom (a.pa - a.row.base) n, s)
    else .error (.unmappedPhysical (romMissing a s.rom.length))
  | .device id len =>
    .ok (if a.whole then deviceRead id len (a.pa - a.row.base) n s
      else deviceReadBytes id len (a.pa - a.row.base) n s)

/-- The bus write of a checked store (R162, R163). -/
def writeAt (n : Nat) (a : Access) (v : Word) (s : State) : State :=
  match a.row.kind with
  | .memory => { s with mem := s.mem.writeBE a.pa n v }
  | .rom => s
  | .device id len =>
    if a.whole then deviceWrite id len (a.pa - a.row.base) n (lowBytes n v) s
    else deviceWriteBytes id len (a.pa - a.row.base) n v n s

/-- `MemRead(va, n)`. -/
def load (n : Nat) (va : Word) (s : State) : Except Fault (Word × State) :=
  match access n va s with
  | .error f => .error f
  | .ok a => readAt n a s

/-- `MemWrite(va, n, v)`: every check before the first write (40_cycle.md R266). -/
def store (n : Nat) (va v : Word) (s : State) : Except Fault State :=
  match storeAccess n va s with
  | .error f => .error f
  | .ok a => .ok (writeAt n a v s)

/-- 43_load_store.md R454: read one aligned unit and write it back merged; the checks of the store come first
(log 20). -/
def readModifyWrite (n : Nat) (va : Word) (f : Word → Word) (s : State) : Except Fault State :=
  match storeAccess n va s with
  | .error e => .error e
  | .ok a =>
    match readAt n a s with
    | .error e => .error e
    | .ok (u, s') => .ok (writeAt n a (f u) s')

end Sys2Proof.Machine
end

