-- ==== Sys2Proof/Machine/Branch.lean ====
section
/-! DEFINITION. Jumps and branches (42_branch_jump.md R405 to R428). -/

namespace Sys2Proof.Machine

/-! ## Jumps -/

/-- J (42_branch_jump.md R405). -/
def execJ (target : BitVec 26) (s : State) : Result := controlTransfer s (.next (delayBranch (s.jumpTarget target) s))

/-- JAL (42_branch_jump.md R406). -/
def execJal (target : BitVec 26) (s : State) : Result :=
  controlTransfer s (.next (delayBranch (s.jumpTarget target) (s.setGpr linkReg s.link)))

/-- JR (42_branch_jump.md R407). -/
def execJr (rs : Reg) (s : State) : Result := controlTransfer s (.next (delayBranch (s.gpr rs) s))

/-- JALR (42_branch_jump.md R408): the target is read before the link is written. -/
def execJalr (rs rd : Reg) (s : State) : Result :=
  controlTransfer s (.next (delayBranch (s.gpr rs) (s.setGpr rd s.link)))

/-! ## Conditions (R429) -/

/-- `signed(x[rs]) < 0`. -/
def isNeg (v : Word) : Bool := v.slt 0#64

/-- `signed(x[rs]) <= 0`. -/
def isNonPos (v : Word) : Bool := v.sle 0#64

/-! ## Branches of the primary table -/

/-- BEQ (42_branch_jump.md R409). -/
def execBeq (rs rt : Reg) (imm : Half) (s : State) : Result :=
  controlTransfer s (.next (branchIf (s.gpr rs == s.gpr rt) (s.branchTarget imm) s))

/-- BNE (42_branch_jump.md R410). -/
def execBne (rs rt : Reg) (imm : Half) (s : State) : Result :=
  controlTransfer s (.next (branchIf (s.gpr rs != s.gpr rt) (s.branchTarget imm) s))

/-- BLEZ (42_branch_jump.md R411). -/
def execBlez (rs : Reg) (imm : Half) (s : State) : Result :=
  controlTransfer s (.next (branchIf (isNonPos (s.gpr rs)) (s.branchTarget imm) s))

/-- BGTZ (42_branch_jump.md R412). -/
def execBgtz (rs : Reg) (imm : Half) (s : State) : Result :=
  controlTransfer s (.next (branchIf (!isNonPos (s.gpr rs)) (s.branchTarget imm) s))

/-- BEQL (42_branch_jump.md R413). -/
def execBeql (rs rt : Reg) (imm : Half) (s : State) : Result :=
  controlTransfer s (.next (branchLikely (s.gpr rs == s.gpr rt) (s.branchTarget imm) s))

/-- BNEL (42_branch_jump.md R414). -/
def execBnel (rs rt : Reg) (imm : Half) (s : State) : Result :=
  controlTransfer s (.next (branchLikely (s.gpr rs != s.gpr rt) (s.branchTarget imm) s))

/-- BLEZL (42_branch_jump.md R415). -/
def execBlezl (rs : Reg) (imm : Half) (s : State) : Result :=
  controlTransfer s (.next (branchLikely (isNonPos (s.gpr rs)) (s.branchTarget imm) s))

/-- BGTZL (42_branch_jump.md R416). -/
def execBgtzl (rs : Reg) (imm : Half) (s : State) : Result :=
  controlTransfer s (.next (branchLikely (!isNonPos (s.gpr rs)) (s.branchTarget imm) s))

/-! ## REGIMM branches -/

/-- BLTZ (42_branch_jump.md R417). -/
def execBltz (rs : Reg) (imm : Half) (s : State) : Result :=
  controlTransfer s (.next (branchIf (isNeg (s.gpr rs)) (s.branchTarget imm) s))

/-- BGEZ (42_branch_jump.md R418). -/
def execBgez (rs : Reg) (imm : Half) (s : State) : Result :=
  controlTransfer s (.next (branchIf (!isNeg (s.gpr rs)) (s.branchTarget imm) s))

/-- BLTZL (42_branch_jump.md R419). -/
def execBltzl (rs : Reg) (imm : Half) (s : State) : Result :=
  controlTransfer s (.next (branchLikely (isNeg (s.gpr rs)) (s.branchTarget imm) s))

/-- BGEZL (42_branch_jump.md R420). -/
def execBgezl (rs : Reg) (imm : Half) (s : State) : Result :=
  controlTransfer s (.next (branchLikely (!isNeg (s.gpr rs)) (s.branchTarget imm) s))

/-- BLTZAL (42_branch_jump.md R421): the condition is tested before the link is written. -/
def execBltzal (rs : Reg) (imm : Half) (s : State) : Result :=
  controlTransfer s (.next (branchIf (isNeg (s.gpr rs)) (s.branchTarget imm) (s.setGpr linkReg s.link)))

/-- BGEZAL (42_branch_jump.md R422): the condition is tested before the link is written. -/
def execBgezal (rs : Reg) (imm : Half) (s : State) : Result :=
  controlTransfer s (.next (branchIf (!isNeg (s.gpr rs)) (s.branchTarget imm) (s.setGpr linkReg s.link)))

/-- BLTZALL (42_branch_jump.md R423): the condition is tested before the link is written. -/
def execBltzall (rs : Reg) (imm : Half) (s : State) : Result :=
  controlTransfer s (.next (branchLikely (isNeg (s.gpr rs)) (s.branchTarget imm) (s.setGpr linkReg s.link)))

/-- BGEZALL (42_branch_jump.md R424): the condition is tested before the link is written. -/
def execBgezall (rs : Reg) (imm : Half) (s : State) : Result :=
  controlTransfer s (.next (branchLikely (!isNeg (s.gpr rs)) (s.branchTarget imm) (s.setGpr linkReg s.link)))

/-! ## COP1 condition branches -/

/-- BC1F (42_branch_jump.md R425). -/
def execBc1f (imm : Half) (s : State) : Result :=
  controlTransfer s (withCop1 s (.next (branchIf (!Fcsr.cond s.fcr31) (s.branchTarget imm) s)))

/-- BC1T (42_branch_jump.md R426). -/
def execBc1t (imm : Half) (s : State) : Result :=
  controlTransfer s (withCop1 s (.next (branchIf (Fcsr.cond s.fcr31) (s.branchTarget imm) s)))

/-- BC1FL (42_branch_jump.md R427). -/
def execBc1fl (imm : Half) (s : State) : Result :=
  controlTransfer s (withCop1 s (.next (branchLikely (!Fcsr.cond s.fcr31) (s.branchTarget imm) s)))

/-- BC1TL (42_branch_jump.md R428). -/
def execBc1tl (imm : Half) (s : State) : Result :=
  controlTransfer s (withCop1 s (.next (branchLikely (Fcsr.cond s.fcr31) (s.branchTarget imm) s)))

end Sys2Proof.Machine
end

