-- ==== Sys2Proof/Machine/Float.lean ====
section
/-! DEFINITION. Exact binary floating point on Nat and Int: unpacking, one rounding (46_fpu_convert_compare.md R620),
the operations of 45_fpu_move_arith.md R553, conversions (R623, R624) and comparison (R656). The formats are IEEE-754
binary32 and binary64 (30_encoding.md R202); the details of IEEE-754 that the spec only names are log 29. -/

namespace Sys2Proof.Machine

/-- A binary interchange format: widths of the exponent and fraction fields. -/
structure Format where
  expBits  : Nat
  fracBits : Nat
  deriving DecidableEq, Repr

/-- Format S, binary32. -/
def single : Format := ⟨8, 23⟩

/-- Format D, binary64. -/
def double : Format := ⟨11, 52⟩

/-- The exponent of the last place of a subnormal. -/
def minExp (f : Format) : Int := 2 - 2 ^ (f.expBits - 1) - f.fracBits

/-- The encoding of +infinity; below it lie the finite magnitudes, in order. -/
def infEnc (f : Format) : Nat := (2 ^ f.expBits - 1) * 2 ^ f.fracBits

/-- The weight of the sign bit. -/
def signUnit (f : Format) : Nat := 2 ^ (f.expBits + f.fracBits)

/-- What an encoding stands for: a NaN, an infinity, or the number ± m · 2^e. -/
inductive FpVal where
  | nan
  | inf (neg : Bool)
  | fin (neg : Bool) (m : Nat) (e : Int)
  deriving DecidableEq, Repr

/-- The value of an encoding. -/
def unpack (f : Format) (b : Nat) : FpVal :=
  let neg := decide (signUnit f ≤ b)
  let frac := b % 2 ^ f.fracBits
  let ex := b / 2 ^ f.fracBits % 2 ^ f.expBits
  if ex = 2 ^ f.expBits - 1 then (if frac = 0 then .inf neg else .nan)
  else if ex = 0 then .fin neg frac (minExp f)
  else .fin neg (2 ^ f.fracBits + frac) (minExp f + (ex - 1 : Nat))

/-- The rounding modes, numbered as in `fcr31[1:0]` (R620). -/
inductive RoundMode where
  | nearest
  | zero
  | up
  | down
  deriving DecidableEq, Repr

/-- R620: the mode that FCSR selects. -/
def roundMode (rm : BitVec 2) : RoundMode :=
  match rm with
  | 0#2 => .nearest
  | 1#2 => .zero
  | 2#2 => .up
  | _ => .down

/-- Round the magnitude m / 2^d of a number of the given sign to an integer magnitude. -/
def roundShift (mode : RoundMode) (neg : Bool) (m d : Nat) : Nat :=
  let q := m / 2 ^ d
  let r := m % 2 ^ d
  match mode with
  | .nearest => if 2 * r < 2 ^ d then q else if 2 * r = 2 ^ d then q + q % 2 else q + 1
  | .zero => q
  | .up => if r ≠ 0 ∧ neg = false then q + 1 else q
  | .down => if r ≠ 0 ∧ neg = true then q + 1 else q

/-- Round m · 2^e to a multiple of 2^q: the multiple. -/
def roundAt (mode : RoundMode) (neg : Bool) (m : Nat) (e q : Int) : Nat :=
  if q ≤ e then m * 2 ^ (e - q).toNat else roundShift mode neg m (q - e).toNat

/-- The exponent of the last place that the format keeps of m · 2^e. -/
def lastPlace (f : Format) (m : Nat) (e : Int) : Int := max (minExp f) (e + m.log2 - f.fracBits)

/-- Whether a magnitude past the largest finite one becomes an infinity (R624, log 29). -/
def overflowToInf (mode : RoundMode) (neg : Bool) : Bool :=
  match mode with
  | .nearest => true
  | .zero => false
  | .up => !neg
  | .down => neg

/-- The magnitude's encoding of m · 2^e, rounded once. The encoding of a rounded M in the binade with last place `q` is
(q - minExp) · 2^fracBits + M: it carries into the next binade by itself. -/
def roundMag (f : Format) (mode : RoundMode) (neg : Bool) (m : Nat) (e : Int) : Nat :=
  let q := lastPlace f m e
  let enc := (q - minExp f).toNat * 2 ^ f.fracBits + roundAt mode neg m e q
  if enc < infEnc f then enc else if overflowToInf mode neg then infEnc f else infEnc f - 1

/-- The encoding of a value, rounded once; none for a NaN. -/
def pack (f : Format) (mode : RoundMode) : FpVal → Option Nat
  | .nan => none
  | .inf neg => some ((if neg then signUnit f else 0) + infEnc f)
  | .fin neg m e => some ((if neg then signUnit f else 0) + (if m = 0 then 0 else roundMag f mode neg m e))

/-- The signed integer of a magnitude. -/
def signed (neg : Bool) (m : Nat) : Int := if neg then -(m : Int) else m

/-- ± m · 2^e as an integer multiple of 2^q, for q ≤ e. -/
def scaled (neg : Bool) (m : Nat) (e q : Int) : Int := signed neg m * 2 ^ (e - q).toNat

/-- Negation of a value. -/
def fpNegate : FpVal → FpVal
  | .nan => .nan
  | .inf n => .inf (!n)
  | .fin n m e => .fin (!n) m e

/-- The exact sum. A zero sum of operands with different signs has the sign of R565: minus only under RM = 3. -/
def fpAdd (mode : RoundMode) : FpVal → FpVal → FpVal
  | .nan, _ => .nan
  | _, .nan => .nan
  | .inf a, .inf b => if a = b then .inf a else .nan
  | .inf a, .fin _ _ _ => .inf a
  | .fin _ _ _, .inf b => .inf b
  | .fin n1 m1 e1, .fin n2 m2 e2 =>
    let q := min e1 e2
    let t := scaled n1 m1 e1 q + scaled n2 m2 e2 q
    if t = 0 then .fin (if n1 = n2 then n1 else mode == .down) 0 q else .fin (decide (t < 0)) t.natAbs q

/-- The exact difference. -/
def fpSub (mode : RoundMode) (a b : FpVal) : FpVal := fpAdd mode a (fpNegate b)

/-- The exact product. -/
def fpMul : FpVal → FpVal → FpVal
  | .nan, _ => .nan
  | _, .nan => .nan
  | .inf a, .inf b => .inf (a != b)
  | .inf a, .fin n m _ => if m = 0 then .nan else .inf (a != n)
  | .fin n m _, .inf b => if m = 0 then .nan else .inf (n != b)
  | .fin n1 m1 e1, .fin n2 m2 e2 => .fin (n1 != n2) (m1 * m2) (e1 + e2)

/-- A magnitude with one more bit below: 1 when something was cut off. -/
def sticky (q : Nat) (rest : Bool) : Nat := 2 * q + (if rest then 1 else 0)

/-- The quotient, cut off well below the last place of the format and with a sticky bit, so that rounding it is rounding
the exact quotient. -/
def fpDiv (f : Format) : FpVal → FpVal → FpVal
  | .nan, _ => .nan
  | _, .nan => .nan
  | .inf _, .inf _ => .nan
  | .inf a, .fin n _ _ => .inf (a != n)
  | .fin n _ _, .inf b => .fin (n != b) 0 0
  | .fin n1 m1 e1, .fin n2 m2 e2 =>
    if m2 = 0 then (if m1 = 0 then .nan else .inf (n1 != n2))
    else
      let k := 2 * f.fracBits + 4
      let t := m1 * 2 ^ k
      .fin (n1 != n2) (sticky (t / m2) (t % m2 != 0)) (e1 - e2 - k - 1)

/-- The largest r of the form `r + (a number below 2^bits)` whose square is at most n, one bit at a time. -/
def isqrtFrom (n : Nat) : Nat → Nat → Nat
  | 0, r => r
  | bits + 1, r => if (r + 2 ^ bits) * (r + 2 ^ bits) ≤ n then isqrtFrom n bits (r + 2 ^ bits) else isqrtFrom n bits r

/-- The integer square root of a number below 4^bits. -/
def isqrt (bits n : Nat) : Nat := isqrtFrom n bits 0

/-- The square root, cut off well below the last place and with a sticky bit. -/
def fpSqrt (f : Format) : FpVal → FpVal
  | .nan => .nan
  | .inf neg => if neg then .nan else .inf false
  | .fin neg m e =>
    if m = 0 then .fin neg 0 e
    else if neg then .nan
    else
      let k := f.fracBits + 3
      let t := (if e % 2 = 0 then m else 2 * m) * 4 ^ k
      let r := isqrt (2 * f.fracBits + 8) t
      .fin false (sticky r (r * r != t)) (e / 2 - k - 1)

/-- An integer as a value. -/
def ofInt (i : Int) : FpVal := .fin (decide (i < 0)) i.natAbs 0

/-- The integer that a value rounds to; none for a NaN and an infinity. -/
def roundToInt (mode : RoundMode) : FpVal → Option Int
  | .nan => none
  | .inf _ => none
  | .fin neg m e => some (signed neg (roundAt mode neg m e 0))

/-- R623: `to_int_N`; none where the spec leaves the result to `CvtInvalid`. -/
def toInt (n : Nat) (mode : RoundMode) (v : FpVal) : Option Int :=
  match roundToInt mode v with
  | none => none
  | some r => if -(2 ^ (n - 1)) ≤ r ∧ r ≤ 2 ^ (n - 1) - 1 then some r else none

/-- The order of two integers. -/
def orderInt (a b : Int) : FpOrder := if a < b then .lt else if a = b then .eq else .gt

/-- R656: how two values compare. -/
def fpCompare : FpVal → FpVal → FpOrder
  | .nan, _ => .un
  | _, .nan => .un
  | .inf a, .inf b => if a = b then .eq else if a then .lt else .gt
  | .inf a, .fin _ _ _ => if a then .lt else .gt
  | .fin _ _ _, .inf b => if b then .gt else .lt
  | .fin n1 m1 e1, .fin n2 m2 e2 => orderInt (scaled n1 m1 e1 (min e1 e2)) (scaled n2 m2 e2 (min e1 e2))

/-! ## Between registers and values -/

/-- R551: `f32`. -/
def f32 (v : Word32) : FpVal := unpack single v.toNat

/-- R551: `f64`. -/
def f64 (v : Word) : FpVal := unpack double v.toNat

/-- Whether a single is a NaN. -/
def isNan32 (v : Word32) : Bool := f32 v == .nan

/-- Whether a double is a NaN. -/
def isNan64 (v : Word) : Bool := f64 v == .nan

/-- R621: the NaN that `FpNaN` gives for a single result: exponent all ones, fraction nonzero. -/
def nan32 (op : FpOp) (a b : Word) : Word32 :=
  let v := Config.fpNaN32 op a b
  let frac : BitVec 23 := v.extractLsb' 0 23
  v.extractLsb' 23 1 ++ 0xFF#8 ++ (if frac = 0#23 then 1#23 else frac)

/-- R621: the NaN that `FpNaN` gives for a double result. -/
def nan64 (op : FpOp) (a b : Word) : Word :=
  let v := Config.fpNaN64 op a b
  let frac : BitVec 52 := v.extractLsb' 0 52
  v.extractLsb' 52 1 ++ 0x7FF#11 ++ (if frac = 0#52 then 1#52 else frac)

/-- A single result: `bits32(round_RM(v))`, or `FpNaN` of the operation and its operands' bits. -/
def single32 (op : FpOp) (a b : Word) (mode : RoundMode) (v : FpVal) : Word32 :=
  match pack single mode v with
  | some e => BitVec.ofNat 32 e
  | none => nan32 op a b

/-- A double result. -/
def double64 (op : FpOp) (a b : Word) (mode : RoundMode) (v : FpVal) : Word :=
  match pack double mode v with
  | some e => BitVec.ofNat 64 e
  | none => nan64 op a b

/-- R623: a W result. -/
def int32 (op : FpOp) (a : Word) (mode : RoundMode) (v : FpVal) : Word32 :=
  match toInt 32 mode v with
  | some r => BitVec.ofInt 32 r
  | none => Config.cvtInvalid32 op a

/-- R623: an L result. -/
def int64 (op : FpOp) (a : Word) (mode : RoundMode) (v : FpVal) : Word :=
  match toInt 64 mode v with
  | some r => BitVec.ofInt 64 r
  | none => Config.cvtInvalid64 op a

/-- The rounding mode of FCSR. -/
def State.rm (s : State) : RoundMode := roundMode (Fcsr.rm s.fcr31)

end Sys2Proof.Machine
end

