-- ==== Sys2Proof/Machine/FpArith.lean ====
section
/-! DEFINITION. FP arithmetic (45_fpu_move_arith.md R565 to R580, but for the moves). -/

namespace Sys2Proof.Machine

/-- R551, R552: an operation on two singles. -/
def fp2S (op : FpOp) (f : RoundMode → FpVal → FpVal → FpVal) (ft fs fd : Reg) (s : State) : Result :=
  withCop1 s <| .next <|
    s.setFpr32 fd (single32 op ((s.fpr32 fs).setWidth 64) ((s.fpr32 ft).setWidth 64) s.rm
      (f s.rm (f32 (s.fpr32 fs)) (f32 (s.fpr32 ft))))

/-- R551, R552: an operation on two doubles. -/
def fp2D (op : FpOp) (f : RoundMode → FpVal → FpVal → FpVal) (ft fs fd : Reg) (s : State) : Result :=
  withCop1 s <| needPairs [fs, ft, fd] s <| .next <|
    s.setFpr64 fd (double64 op (s.fpr64 fs) (s.fpr64 ft) s.rm (f s.rm (f64 (s.fpr64 fs)) (f64 (s.fpr64 ft))))

/-- ADD.S (45_fpu_move_arith.md R565). -/
def execAddS (ft fs fd : Reg) (s : State) : Result := fp2S .addS fpAdd ft fs fd s

/-- ADD.D (45_fpu_move_arith.md R566). -/
def execAddD (ft fs fd : Reg) (s : State) : Result := fp2D .addD fpAdd ft fs fd s

/-- SUB.S (45_fpu_move_arith.md R567). -/
def execSubS (ft fs fd : Reg) (s : State) : Result := fp2S .subS fpSub ft fs fd s

/-- SUB.D (45_fpu_move_arith.md R568). -/
def execSubD (ft fs fd : Reg) (s : State) : Result := fp2D .subD fpSub ft fs fd s

/-- MUL.S (45_fpu_move_arith.md R569). -/
def execMulS (ft fs fd : Reg) (s : State) : Result := fp2S .mulS (fun _ => fpMul) ft fs fd s

/-- MUL.D (45_fpu_move_arith.md R570). -/
def execMulD (ft fs fd : Reg) (s : State) : Result := fp2D .mulD (fun _ => fpMul) ft fs fd s

/-- DIV.S (45_fpu_move_arith.md R571). -/
def execDivS (ft fs fd : Reg) (s : State) : Result := fp2S .divS (fun _ => fpDiv single) ft fs fd s

/-- DIV.D (45_fpu_move_arith.md R572). -/
def execDivD (ft fs fd : Reg) (s : State) : Result := fp2D .divD (fun _ => fpDiv double) ft fs fd s

/-- SQRT.S (45_fpu_move_arith.md R573). -/
def execSqrtS (fs fd : Reg) (s : State) : Result :=
  withCop1 s <| .next <|
    s.setFpr32 fd (single32 .sqrtS ((s.fpr32 fs).setWidth 64) 0#64 s.rm (fpSqrt single (f32 (s.fpr32 fs))))

/-- SQRT.D (45_fpu_move_arith.md R574). -/
def execSqrtD (fs fd : Reg) (s : State) : Result :=
  withCop1 s <| needPairs [fs, fd] s <| .next <|
    s.setFpr64 fd (double64 .sqrtD (s.fpr64 fs) 0#64 s.rm (fpSqrt double (f64 (s.fpr64 fs))))

/-- R575, R579: a NaN operand gives `FpNaN`, any other the bit operation `g`. -/
def signS (op : FpOp) (g : Word32 → Word32) (v : Word32) : Word32 :=
  if isNan32 v then nan32 op (v.setWidth 64) 0#64 else g v

/-- R576, R580: a NaN operand gives `FpNaN`, any other the bit operation `g`. -/
def signD (op : FpOp) (g : Word → Word) (v : Word) : Word := if isNan64 v then nan64 op v 0#64 else g v

/-- ABS.S (45_fpu_move_arith.md R575). -/
def execAbsS (fs fd : Reg) (s : State) : Result :=
  withCop1 s (.next (s.setFpr32 fd (signS .absS (· &&& 0x7FFFFFFF#32) (s.fpr32 fs))))

/-- ABS.D (45_fpu_move_arith.md R576). -/
def execAbsD (fs fd : Reg) (s : State) : Result :=
  withCop1 s <| needPairs [fs, fd] s <| .next <|
    s.setFpr64 fd (signD .absD (· &&& 0x7FFFFFFFFFFFFFFF#64) (s.fpr64 fs))

/-- NEG.S (45_fpu_move_arith.md R579). -/
def execNegS (fs fd : Reg) (s : State) : Result :=
  withCop1 s (.next (s.setFpr32 fd (signS .negS (· ^^^ 0x80000000#32) (s.fpr32 fs))))

/-- NEG.D (45_fpu_move_arith.md R580). -/
def execNegD (fs fd : Reg) (s : State) : Result :=
  withCop1 s <| needPairs [fs, fd] s <| .next <|
    s.setFpr64 fd (signD .negD (· ^^^ 0x8000000000000000#64) (s.fpr64 fs))

end Sys2Proof.Machine
end

