-- ==== Sys2Proof/Machine/FpCompare.lean ====
section
/-! DEFINITION. FP compares (46_fpu_convert_compare.md R656 to R691). -/

namespace Sys2Proof.Machine

/-- R656: a compare of singles with condition `c`. -/
def fpCondS (c : BitVec 4) (ft fs : Reg) (s : State) : Result :=
  withCop1 s <| .next
    { s with fcr31 := Fcsr.setCond s.fcr31 (fpCondition c (fpCompare (f32 (s.fpr32 fs)) (f32 (s.fpr32 ft)))) }

/-- R656: a compare of doubles with condition `c`. -/
def fpCondD (c : BitVec 4) (ft fs : Reg) (s : State) : Result :=
  withCop1 s <| needPairs [fs, ft] s <| .next
    { s with fcr31 := Fcsr.setCond s.fcr31 (fpCondition c (fpCompare (f64 (s.fpr64 fs)) (f64 (s.fpr64 ft)))) }

/-- C.F.S (46_fpu_convert_compare.md R660). -/
def execCFS (ft fs : Reg) (s : State) : Result := fpCondS 0#4 ft fs s

/-- C.F.D (46_fpu_convert_compare.md R661). -/
def execCFD (ft fs : Reg) (s : State) : Result := fpCondD 0#4 ft fs s

/-- C.UN.S (46_fpu_convert_compare.md R662). -/
def execCUnS (ft fs : Reg) (s : State) : Result := fpCondS 1#4 ft fs s

/-- C.UN.D (46_fpu_convert_compare.md R663). -/
def execCUnD (ft fs : Reg) (s : State) : Result := fpCondD 1#4 ft fs s

/-- C.EQ.S (46_fpu_convert_compare.md R664). -/
def execCEqS (ft fs : Reg) (s : State) : Result := fpCondS 2#4 ft fs s

/-- C.EQ.D (46_fpu_convert_compare.md R665). -/
def execCEqD (ft fs : Reg) (s : State) : Result := fpCondD 2#4 ft fs s

/-- C.UEQ.S (46_fpu_convert_compare.md R666). -/
def execCUeqS (ft fs : Reg) (s : State) : Result := fpCondS 3#4 ft fs s

/-- C.UEQ.D (46_fpu_convert_compare.md R667). -/
def execCUeqD (ft fs : Reg) (s : State) : Result := fpCondD 3#4 ft fs s

/-- C.OLT.S (46_fpu_convert_compare.md R668). -/
def execCOltS (ft fs : Reg) (s : State) : Result := fpCondS 4#4 ft fs s

/-- C.OLT.D (46_fpu_convert_compare.md R669). -/
def execCOltD (ft fs : Reg) (s : State) : Result := fpCondD 4#4 ft fs s

/-- C.ULT.S (46_fpu_convert_compare.md R670). -/
def execCUltS (ft fs : Reg) (s : State) : Result := fpCondS 5#4 ft fs s

/-- C.ULT.D (46_fpu_convert_compare.md R671). -/
def execCUltD (ft fs : Reg) (s : State) : Result := fpCondD 5#4 ft fs s

/-- C.OLE.S (46_fpu_convert_compare.md R672). -/
def execCOleS (ft fs : Reg) (s : State) : Result := fpCondS 6#4 ft fs s

/-- C.OLE.D (46_fpu_convert_compare.md R673). -/
def execCOleD (ft fs : Reg) (s : State) : Result := fpCondD 6#4 ft fs s

/-- C.ULE.S (46_fpu_convert_compare.md R674). -/
def execCUleS (ft fs : Reg) (s : State) : Result := fpCondS 7#4 ft fs s

/-- C.ULE.D (46_fpu_convert_compare.md R675). -/
def execCUleD (ft fs : Reg) (s : State) : Result := fpCondD 7#4 ft fs s

/-- C.SF.S (46_fpu_convert_compare.md R676). -/
def execCSfS (ft fs : Reg) (s : State) : Result := fpCondS 8#4 ft fs s

/-- C.SF.D (46_fpu_convert_compare.md R677). -/
def execCSfD (ft fs : Reg) (s : State) : Result := fpCondD 8#4 ft fs s

/-- C.NGLE.S (46_fpu_convert_compare.md R678). -/
def execCNgleS (ft fs : Reg) (s : State) : Result := fpCondS 9#4 ft fs s

/-- C.NGLE.D (46_fpu_convert_compare.md R679). -/
def execCNgleD (ft fs : Reg) (s : State) : Result := fpCondD 9#4 ft fs s

/-- C.SEQ.S (46_fpu_convert_compare.md R680). -/
def execCSeqS (ft fs : Reg) (s : State) : Result := fpCondS 10#4 ft fs s

/-- C.SEQ.D (46_fpu_convert_compare.md R681). -/
def execCSeqD (ft fs : Reg) (s : State) : Result := fpCondD 10#4 ft fs s

/-- C.NGL.S (46_fpu_convert_compare.md R682). -/
def execCNglS (ft fs : Reg) (s : State) : Result := fpCondS 11#4 ft fs s

/-- C.NGL.D (46_fpu_convert_compare.md R683). -/
def execCNglD (ft fs : Reg) (s : State) : Result := fpCondD 11#4 ft fs s

/-- C.LT.S (46_fpu_convert_compare.md R684). -/
def execCLtS (ft fs : Reg) (s : State) : Result := fpCondS 12#4 ft fs s

/-- C.LT.D (46_fpu_convert_compare.md R685). -/
def execCLtD (ft fs : Reg) (s : State) : Result := fpCondD 12#4 ft fs s

/-- C.NGE.S (46_fpu_convert_compare.md R686). -/
def execCNgeS (ft fs : Reg) (s : State) : Result := fpCondS 13#4 ft fs s

/-- C.NGE.D (46_fpu_convert_compare.md R687). -/
def execCNgeD (ft fs : Reg) (s : State) : Result := fpCondD 13#4 ft fs s

/-- C.LE.S (46_fpu_convert_compare.md R688). -/
def execCLeS (ft fs : Reg) (s : State) : Result := fpCondS 14#4 ft fs s

/-- C.LE.D (46_fpu_convert_compare.md R689). -/
def execCLeD (ft fs : Reg) (s : State) : Result := fpCondD 14#4 ft fs s

/-- C.NGT.S (46_fpu_convert_compare.md R690). -/
def execCNgtS (ft fs : Reg) (s : State) : Result := fpCondS 15#4 ft fs s

/-- C.NGT.D (46_fpu_convert_compare.md R691). -/
def execCNgtD (ft fs : Reg) (s : State) : Result := fpCondD 15#4 ft fs s

end Sys2Proof.Machine
end

