-- ==== Sys2Proof/Machine/FpConvert.lean ====
section
/-! DEFINITION. FP conversions (46_fpu_convert_compare.md R630 to R655). -/

namespace Sys2Proof.Machine

/-- R624: an integer as a single, rounded once. -/
def singleOfInt (mode : RoundMode) (i : Int) : Word32 := BitVec.ofNat 32 ((pack single mode (ofInt i)).getD 0)

/-- R624: an integer as a double, rounded once. -/
def doubleOfInt (mode : RoundMode) (i : Int) : Word := BitVec.ofNat 64 ((pack double mode (ofInt i)).getD 0)

/-! ## Format conversions -/

/-- CVT.S.D (46_fpu_convert_compare.md R630). -/
def execCvtSD (fs fd : Reg) (s : State) : Result :=
  withCop1 s <| needPairs [fs] s <| .next <|
    s.setFpr32 fd (single32 .cvtSD (s.fpr64 fs) 0#64 s.rm (f64 (s.fpr64 fs)))

/-- CVT.S.W (46_fpu_convert_compare.md R631). -/
def execCvtSW (fs fd : Reg) (s : State) : Result :=
  withCop1 s (.next (s.setFpr32 fd (singleOfInt s.rm (s.fpr32 fs).toInt)))

/-- CVT.S.L (46_fpu_convert_compare.md R632). -/
def execCvtSL (fs fd : Reg) (s : State) : Result :=
  withCop1 s (needPairs [fs] s (.next (s.setFpr32 fd (singleOfInt s.rm (s.fpr64 fs).toInt))))

/-- CVT.D.S (46_fpu_convert_compare.md R633). -/
def execCvtDS (fs fd : Reg) (s : State) : Result :=
  withCop1 s <| needPairs [fd] s <| .next <|
    s.setFpr64 fd (double64 .cvtDS ((s.fpr32 fs).setWidth 64) 0#64 s.rm (f32 (s.fpr32 fs)))

/-- CVT.D.W (46_fpu_convert_compare.md R634). -/
def execCvtDW (fs fd : Reg) (s : State) : Result :=
  withCop1 s (needPairs [fd] s (.next (s.setFpr64 fd (doubleOfInt s.rm (s.fpr32 fs).toInt))))

/-- CVT.D.L (46_fpu_convert_compare.md R635). -/
def execCvtDL (fs fd : Reg) (s : State) : Result :=
  withCop1 s (needPairs [fs, fd] s (.next (s.setFpr64 fd (doubleOfInt s.rm (s.fpr64 fs).toInt))))

/-! ## Conversions to integer (R623) -/

/-- Single to word under a mode. -/
def cvtWordS (op : FpOp) (mode : RoundMode) (fs fd : Reg) (s : State) : Result :=
  withCop1 s <| .next <| s.setFpr32 fd (int32 op ((s.fpr32 fs).setWidth 64) mode (f32 (s.fpr32 fs)))

/-- Double to word under a mode. -/
def cvtWordD (op : FpOp) (mode : RoundMode) (fs fd : Reg) (s : State) : Result :=
  withCop1 s <| needPairs [fs] s <| .next <| s.setFpr32 fd (int32 op (s.fpr64 fs) mode (f64 (s.fpr64 fs)))

/-- Single to long under a mode. -/
def cvtLongS (op : FpOp) (mode : RoundMode) (fs fd : Reg) (s : State) : Result :=
  withCop1 s <| needPairs [fd] s <| .next <|
    s.setFpr64 fd (int64 op ((s.fpr32 fs).setWidth 64) mode (f32 (s.fpr32 fs)))

/-- Double to long under a mode. -/
def cvtLongD (op : FpOp) (mode : RoundMode) (fs fd : Reg) (s : State) : Result :=
  withCop1 s <| needPairs [fs, fd] s <| .next <| s.setFpr64 fd (int64 op (s.fpr64 fs) mode (f64 (s.fpr64 fs)))

/-- CVT.W.S (46_fpu_convert_compare.md R636). -/
def execCvtWS (fs fd : Reg) (s : State) : Result := cvtWordS .cvtWS s.rm fs fd s

/-- CVT.W.D (46_fpu_convert_compare.md R637). -/
def execCvtWD (fs fd : Reg) (s : State) : Result := cvtWordD .cvtWD s.rm fs fd s

/-- CVT.L.S (46_fpu_convert_compare.md R638). -/
def execCvtLS (fs fd : Reg) (s : State) : Result := cvtLongS .cvtLS s.rm fs fd s

/-- CVT.L.D (46_fpu_convert_compare.md R639). -/
def execCvtLD (fs fd : Reg) (s : State) : Result := cvtLongD .cvtLD s.rm fs fd s

/-- ROUND.W.S (46_fpu_convert_compare.md R640). -/
def execRoundWS (fs fd : Reg) (s : State) : Result := cvtWordS .roundWS .nearest fs fd s

/-- ROUND.W.D (46_fpu_convert_compare.md R641). -/
def execRoundWD (fs fd : Reg) (s : State) : Result := cvtWordD .roundWD .nearest fs fd s

/-- ROUND.L.S (46_fpu_convert_compare.md R648). -/
def execRoundLS (fs fd : Reg) (s : State) : Result := cvtLongS .roundLS .nearest fs fd s

/-- ROUND.L.D (46_fpu_convert_compare.md R649). -/
def execRoundLD (fs fd : Reg) (s : State) : Result := cvtLongD .roundLD .nearest fs fd s

/-- TRUNC.W.S (46_fpu_convert_compare.md R642). -/
def execTruncWS (fs fd : Reg) (s : State) : Result := cvtWordS .truncWS .zero fs fd s

/-- TRUNC.W.D (46_fpu_convert_compare.md R643). -/
def execTruncWD (fs fd : Reg) (s : State) : Result := cvtWordD .truncWD .zero fs fd s

/-- TRUNC.L.S (46_fpu_convert_compare.md R650). -/
def execTruncLS (fs fd : Reg) (s : State) : Result := cvtLongS .truncLS .zero fs fd s

/-- TRUNC.L.D (46_fpu_convert_compare.md R651). -/
def execTruncLD (fs fd : Reg) (s : State) : Result := cvtLongD .truncLD .zero fs fd s

/-- CEIL.W.S (46_fpu_convert_compare.md R644). -/
def execCeilWS (fs fd : Reg) (s : State) : Result := cvtWordS .ceilWS .up fs fd s

/-- CEIL.W.D (46_fpu_convert_compare.md R645). -/
def execCeilWD (fs fd : Reg) (s : State) : Result := cvtWordD .ceilWD .up fs fd s

/-- CEIL.L.S (46_fpu_convert_compare.md R652). -/
def execCeilLS (fs fd : Reg) (s : State) : Result := cvtLongS .ceilLS .up fs fd s

/-- CEIL.L.D (46_fpu_convert_compare.md R653). -/
def execCeilLD (fs fd : Reg) (s : State) : Result := cvtLongD .ceilLD .up fs fd s

/-- FLOOR.W.S (46_fpu_convert_compare.md R646). -/
def execFloorWS (fs fd : Reg) (s : State) : Result := cvtWordS .floorWS .down fs fd s

/-- FLOOR.W.D (46_fpu_convert_compare.md R647). -/
def execFloorWD (fs fd : Reg) (s : State) : Result := cvtWordD .floorWD .down fs fd s

/-- FLOOR.L.S (46_fpu_convert_compare.md R654). -/
def execFloorLS (fs fd : Reg) (s : State) : Result := cvtLongS .floorLS .down fs fd s

/-- FLOOR.L.D (46_fpu_convert_compare.md R655). -/
def execFloorLD (fs fd : Reg) (s : State) : Result := cvtLongD .floorLD .down fs fd s

end Sys2Proof.Machine
end

