-- ==== Sys2Proof/Machine/FpMove.lean ====
section
/-! DEFINITION. COP1 moves (45_fpu_move_arith.md R555 to R560, R577, R578). -/

namespace Sys2Proof.Machine

/-- MFC1 (45_fpu_move_arith.md R555). -/
def execMfc1 (rt fs : Reg) (s : State) : Result := withCop1 s (.next (s.setGpr rt (sext32 (s.fpr32 fs))))

/-- DMFC1 (45_fpu_move_arith.md R556). -/
def execDmfc1 (rt fs : Reg) (s : State) : Result := withCop1 s (needPairs [fs] s (.next (s.setGpr rt (s.fpr64 fs))))

/-- R116, R557: what an FP control register reads as. -/
def State.fpControl (s : State) (n : Reg) : Word32 :=
  if n = 31#5 then s.fcr31 else if n = 0#5 then s.params.fcr0 else 0#32

/-- CFC1 (45_fpu_move_arith.md R557). -/
def execCfc1 (rt fs : Reg) (s : State) : Result := withCop1 s (.next (s.setGpr rt (sext32 (s.fpControl fs))))

/-- MTC1 (45_fpu_move_arith.md R558). -/
def execMtc1 (rt fs : Reg) (s : State) : Result := withCop1 s (.next (s.setFpr32 fs (low32 (s.gpr rt))))

/-- DMTC1 (45_fpu_move_arith.md R559). -/
def execDmtc1 (rt fs : Reg) (s : State) : Result := withCop1 s (needPairs [fs] s (.next (s.setFpr64 fs (s.gpr rt))))

/-- R116, R560: a write of an FP control register; only register 31 stores. -/
def setFpControl (n : Reg) (v : Word32) (s : State) : State := if n = 31#5 then { s with fcr31 := v } else s

/-- CTC1 (45_fpu_move_arith.md R560). -/
def execCtc1 (rt fs : Reg) (s : State) : Result := withCop1 s (.next (setFpControl fs (low32 (s.gpr rt)) s))

/-- MOV.S (45_fpu_move_arith.md R577): a bit copy. -/
def execMovS (fs fd : Reg) (s : State) : Result := withCop1 s (.next (s.setFpr32 fd (s.fpr32 fs)))

/-- MOV.D (45_fpu_move_arith.md R578): a bit copy. -/
def execMovD (fs fd : Reg) (s : State) : Result :=
  withCop1 s (needPairs [fs, fd] s (.next (s.setFpr64 fd (s.fpr64 fs))))

end Sys2Proof.Machine
end

