-- ==== Sys2Proof/Machine/Integer.lean ====
section
/-! DEFINITION. Integer add, subtract, logical, set and NOP (41_integer.md R301 to R324, R352). -/

namespace Sys2Proof.Machine

/-! ## Add and subtract -/

/-- ADD (41_integer.md R301): no overflow trap. -/
def execAdd (rs rt rd : Reg) (s : State) : Result :=
  .next (s.setGpr rd (sext32 (low32 (s.gpr rs) + low32 (s.gpr rt))))

/-- ADDU (41_integer.md R302). -/
def execAddu (rs rt rd : Reg) (s : State) : Result :=
  .next (s.setGpr rd (sext32 (low32 (s.gpr rs) + low32 (s.gpr rt))))

/-- SUB (41_integer.md R303): no overflow trap. -/
def execSub (rs rt rd : Reg) (s : State) : Result :=
  .next (s.setGpr rd (sext32 (low32 (s.gpr rs) - low32 (s.gpr rt))))

/-- SUBU (41_integer.md R304). -/
def execSubu (rs rt rd : Reg) (s : State) : Result :=
  .next (s.setGpr rd (sext32 (low32 (s.gpr rs) - low32 (s.gpr rt))))

/-- ADDI (41_integer.md R305): no overflow trap. -/
def execAddi (rs rt : Reg) (imm : Half) (s : State) : Result :=
  .next (s.setGpr rt (sext32 (low32 (s.gpr rs) + low32 (immS imm))))

/-- ADDIU (41_integer.md R306). -/
def execAddiu (rs rt : Reg) (imm : Half) (s : State) : Result :=
  .next (s.setGpr rt (sext32 (low32 (s.gpr rs) + low32 (immS imm))))

/-- DADD (41_integer.md R307): no overflow trap. -/
def execDadd (rs rt rd : Reg) (s : State) : Result := .next (s.setGpr rd (s.gpr rs + s.gpr rt))

/-- DADDU (41_integer.md R308). -/
def execDaddu (rs rt rd : Reg) (s : State) : Result := .next (s.setGpr rd (s.gpr rs + s.gpr rt))

/-- DSUB (41_integer.md R309): no overflow trap. -/
def execDsub (rs rt rd : Reg) (s : State) : Result := .next (s.setGpr rd (s.gpr rs - s.gpr rt))

/-- DSUBU (41_integer.md R310). -/
def execDsubu (rs rt rd : Reg) (s : State) : Result := .next (s.setGpr rd (s.gpr rs - s.gpr rt))

/-- DADDI (41_integer.md R311): no overflow trap. -/
def execDaddi (rs rt : Reg) (imm : Half) (s : State) : Result := .next (s.setGpr rt (s.gpr rs + immS imm))

/-- DADDIU (41_integer.md R312). -/
def execDaddiu (rs rt : Reg) (imm : Half) (s : State) : Result := .next (s.setGpr rt (s.gpr rs + immS imm))

/-! ## Logical operations -/

/-- AND (41_integer.md R313). -/
def execAnd (rs rt rd : Reg) (s : State) : Result := .next (s.setGpr rd (s.gpr rs &&& s.gpr rt))

/-- OR (41_integer.md R314). -/
def execOr (rs rt rd : Reg) (s : State) : Result := .next (s.setGpr rd (s.gpr rs ||| s.gpr rt))

/-- XOR (41_integer.md R315). -/
def execXor (rs rt rd : Reg) (s : State) : Result := .next (s.setGpr rd (s.gpr rs ^^^ s.gpr rt))

/-- NOR (41_integer.md R316). -/
def execNor (rs rt rd : Reg) (s : State) : Result := .next (s.setGpr rd (~~~(s.gpr rs ||| s.gpr rt)))

/-- ANDI (41_integer.md R317). -/
def execAndi (rs rt : Reg) (imm : Half) (s : State) : Result := .next (s.setGpr rt (s.gpr rs &&& immZ imm))

/-- ORI (41_integer.md R318). -/
def execOri (rs rt : Reg) (imm : Half) (s : State) : Result := .next (s.setGpr rt (s.gpr rs ||| immZ imm))

/-- XORI (41_integer.md R319). -/
def execXori (rs rt : Reg) (imm : Half) (s : State) : Result := .next (s.setGpr rt (s.gpr rs ^^^ immZ imm))

/-- LUI (41_integer.md R320). -/
def execLui (rt : Reg) (imm : Half) (s : State) : Result := .next (s.setGpr rt (immUpper imm))

/-! ## Set on less than -/

/-- What the set instructions write. -/
def boolWord (b : Bool) : Word := if b then 1#64 else 0#64

/-- SLT (41_integer.md R321): signed, 64 bits. -/
def execSlt (rs rt rd : Reg) (s : State) : Result := .next (s.setGpr rd (boolWord ((s.gpr rs).slt (s.gpr rt))))

/-- SLTU (41_integer.md R322): unsigned, 64 bits. -/
def execSltu (rs rt rd : Reg) (s : State) : Result := .next (s.setGpr rd (boolWord ((s.gpr rs).ult (s.gpr rt))))

/-- SLTI (41_integer.md R323): signed. -/
def execSlti (rs rt : Reg) (imm : Half) (s : State) : Result :=
  .next (s.setGpr rt (boolWord ((s.gpr rs).slt (immS imm))))

/-- SLTIU (41_integer.md R324): the immediate sign-extended, then compared unsigned. -/
def execSltiu (rs rt : Reg) (imm : Half) (s : State) : Result :=
  .next (s.setGpr rt (boolWord ((s.gpr rs).ult (immS imm))))

/-! ## NOP -/

/-- NOP (41_integer.md R352): nothing beyond the fetch. -/
def execNop (s : State) : Result := .next s

end Sys2Proof.Machine
end

