-- ==== Sys2Proof/Machine/LoadStore.lean ====
section
/-! DEFINITION. Loads and stores (43_load_store.md R455 to R488). -/

namespace Sys2Proof.Machine

/-- R452: extend the low `n` bytes of what was read: sign. -/
def signExt (n : Nat) (v : Word) : Word := (v <<< (64 - 8 * n)).sshiftRight (64 - 8 * n)

/-- R452: extend the low `n` bytes of what was read: zero. -/
def zeroExt (n : Nat) (v : Word) : Word := lowBytes n v

/-- R455 to R461: an integer load of `n` bytes. -/
def loadGpr (n : Nat) (ext : Word → Word) (base rt : Reg) (offset : Half) (s : State) : Result :=
  orFault (load n (s.effAddr base offset) s) fun (v, s') => .next (s'.setGpr rt (ext v))

/-- R462 to R465: an integer store of `n` bytes. -/
def storeGpr (n : Nat) (base rt : Reg) (offset : Half) (s : State) : Result :=
  orFault (store n (s.effAddr base offset) (s.gpr rt) s) .next

/-! ## Integer loads -/

/-- LB (43_load_store.md R455). -/
def execLb (base rt : Reg) (offset : Half) (s : State) : Result := loadGpr 1 (signExt 1) base rt offset s

/-- LBU (43_load_store.md R456). -/
def execLbu (base rt : Reg) (offset : Half) (s : State) : Result := loadGpr 1 (zeroExt 1) base rt offset s

/-- LH (43_load_store.md R457). -/
def execLh (base rt : Reg) (offset : Half) (s : State) : Result := loadGpr 2 (signExt 2) base rt offset s

/-- LHU (43_load_store.md R458). -/
def execLhu (base rt : Reg) (offset : Half) (s : State) : Result := loadGpr 2 (zeroExt 2) base rt offset s

/-- LW (43_load_store.md R459). -/
def execLw (base rt : Reg) (offset : Half) (s : State) : Result := loadGpr 4 (signExt 4) base rt offset s

/-- LWU (43_load_store.md R460). -/
def execLwu (base rt : Reg) (offset : Half) (s : State) : Result := loadGpr 4 (zeroExt 4) base rt offset s

/-- LD (43_load_store.md R461). -/
def execLd (base rt : Reg) (offset : Half) (s : State) : Result := loadGpr 8 (zeroExt 8) base rt offset s

/-! ## Integer stores -/

/-- SB (43_load_store.md R462). -/
def execSb (base rt : Reg) (offset : Half) (s : State) : Result := storeGpr 1 base rt offset s

/-- SH (43_load_store.md R463). -/
def execSh (base rt : Reg) (offset : Half) (s : State) : Result := storeGpr 2 base rt offset s

/-- SW (43_load_store.md R464). -/
def execSw (base rt : Reg) (offset : Half) (s : State) : Result := storeGpr 4 base rt offset s

/-- SD (43_load_store.md R465). -/
def execSd (base rt : Reg) (offset : Half) (s : State) : Result := storeGpr 8 base rt offset s

/-! ## Unaligned-part loads and stores (R454)

`k = va mod n`, `u` the aligned unit, `old = x[rt]`. -/

/-- R466: LWL's merge. -/
def lwlMerge (k : Nat) (u old : Word32) : Word32 := (u <<< (8 * k)) ||| (old &&& BitVec.ofNat 32 (2 ^ (8 * k) - 1))

/-- R467: LWR's merge. -/
def lwrMerge (k : Nat) (u old : Word32) : Word32 :=
  (u >>> (8 * (3 - k))) ||| (old &&& ~~~(0xFFFFFFFF#32 >>> (8 * (3 - k))))

/-- R468: LDL's merge. -/
def ldlMerge (k : Nat) (u old : Word) : Word := (u <<< (8 * k)) ||| (old &&& BitVec.ofNat 64 (2 ^ (8 * k) - 1))

/-- R469: LDR's merge. -/
def ldrMerge (k : Nat) (u old : Word) : Word :=
  (u >>> (8 * (7 - k))) ||| (old &&& ~~~(BitVec.allOnes 64 >>> (8 * (7 - k))))

/-- R470: SWL's merge. -/
def swlMerge (k : Nat) (u v : Word32) : Word32 :=
  (u &&& (0xFFFFFFFF#32 ^^^ (0xFFFFFFFF#32 >>> (8 * k)))) ||| (v >>> (8 * k))

/-- R471: SWR's merge. -/
def swrMerge (k : Nat) (u v : Word32) : Word32 :=
  (u &&& (0xFFFFFFFF#32 >>> (8 * (k + 1)))) ||| (v <<< (8 * (3 - k)))

/-- R472: SDL's merge. -/
def sdlMerge (k : Nat) (u old : Word) : Word :=
  (u &&& (BitVec.allOnes 64 ^^^ (BitVec.allOnes 64 >>> (8 * k)))) ||| (old >>> (8 * k))

/-- R473: SDR's merge. -/
def sdrMerge (k : Nat) (u old : Word) : Word :=
  (u &&& (BitVec.allOnes 64 >>> (8 * (k + 1)))) ||| (old <<< (8 * (7 - k)))

/-- R454: a load of part of an aligned unit of `n` bytes; `merge k u old` is the register's new value. -/
def loadPart (n : Nat) (merge : Nat → Word → Word → Word) (base rt : Reg) (offset : Half) (s : State) : Result :=
  orFault (load n (unitBase n (s.effAddr base offset)) s) fun (u, s') =>
    .next (s'.setGpr rt (merge (unitOffset n (s.effAddr base offset)) u (s.gpr rt)))

/-- R454: a store to part of an aligned unit of `n` bytes; `merge k u old` is the unit's new value. -/
def storePart (n : Nat) (merge : Nat → Word → Word → Word) (base rt : Reg) (offset : Half) (s : State) : Result :=
  orFault (readModifyWrite n (unitBase n (s.effAddr base offset))
    (fun u => merge (unitOffset n (s.effAddr base offset)) u (s.gpr rt)) s) .next

/-- LWL (43_load_store.md R466). -/
def execLwl (base rt : Reg) (offset : Half) (s : State) : Result :=
  loadPart 4 (fun k u old => sext32 (lwlMerge k (low32 u) (low32 old))) base rt offset s

/-- LWR (43_load_store.md R467). -/
def execLwr (base rt : Reg) (offset : Half) (s : State) : Result :=
  loadPart 4 (fun k u old => sext32 (lwrMerge k (low32 u) (low32 old))) base rt offset s

/-- LDL (43_load_store.md R468). -/
def execLdl (base rt : Reg) (offset : Half) (s : State) : Result := loadPart 8 ldlMerge base rt offset s

/-- LDR (43_load_store.md R469). -/
def execLdr (base rt : Reg) (offset : Half) (s : State) : Result := loadPart 8 ldrMerge base rt offset s

/-- SWL (43_load_store.md R470). -/
def execSwl (base rt : Reg) (offset : Half) (s : State) : Result :=
  storePart 4 (fun k u old => (swlMerge k (low32 u) (low32 old)).setWidth 64) base rt offset s

/-- SWR (43_load_store.md R471). -/
def execSwr (base rt : Reg) (offset : Half) (s : State) : Result :=
  storePart 4 (fun k u old => (swrMerge k (low32 u) (low32 old)).setWidth 64) base rt offset s

/-- SDL (43_load_store.md R472). -/
def execSdl (base rt : Reg) (offset : Half) (s : State) : Result := storePart 8 sdlMerge base rt offset s

/-- SDR (43_load_store.md R473). -/
def execSdr (base rt : Reg) (offset : Half) (s : State) : Result := storePart 8 sdrMerge base rt offset s

/-! ## Load-linked and store-conditional -/

/-- R480, R481: set the flag, and LLAddr from the translated address. -/
def linkTo (pa : Nat) (s : State) : State :=
  { s.setCop0 Cop0.llAddr (BitVec.ofNat 32 (pa / 16)) with llbit := true }

/-- R480, R481: a load-linked of `n` bytes. -/
def loadLinked (n : Nat) (base rt : Reg) (offset : Half) (s : State) : Result :=
  orFault (access n (s.effAddr base offset) s) fun a =>
    orFault (readAt n a s) fun (v, s') => .next (linkTo a.pa (s'.setGpr rt (signExt n v)))

/-- R482, R483: a store-conditional of `n` bytes; the checks come in every case (log 20). -/
def storeConditional (n : Nat) (base rt : Reg) (offset : Half) (s : State) : Result :=
  orFault (storeAccess n (s.effAddr base offset) s) fun a =>
    if s.llbit then .next { (writeAt n a (s.gpr rt) s).setGpr rt 1#64 with llbit := false }
    else .next { s.setGpr rt 0#64 with llbit := false }

/-- LL (43_load_store.md R480). -/
def execLl (base rt : Reg) (offset : Half) (s : State) : Result := loadLinked 4 base rt offset s

/-- LLD (43_load_store.md R481). -/
def execLld (base rt : Reg) (offset : Half) (s : State) : Result := loadLinked 8 base rt offset s

/-- SC (43_load_store.md R482). -/
def execSc (base rt : Reg) (offset : Half) (s : State) : Result := storeConditional 4 base rt offset s

/-- SCD (43_load_store.md R483). -/
def execScd (base rt : Reg) (offset : Half) (s : State) : Result := storeConditional 8 base rt offset s

/-! ## COP1 loads and stores (R451: CU1, register pair, then the access) -/

/-- LWC1 (43_load_store.md R485). -/
def execLwc1 (base ft : Reg) (offset : Half) (s : State) : Result :=
  withCop1 s <|
    orFault (load 4 (s.effAddr base offset) s) fun (v, s') => .next (s'.setFpr32 ft (low32 v))

/-- LDC1 (43_load_store.md R486). -/
def execLdc1 (base ft : Reg) (offset : Half) (s : State) : Result :=
  withCop1 s <| needPairs [ft] s <|
    orFault (load 8 (s.effAddr base offset) s) fun (v, s') => .next (s'.setFpr64 ft v)

/-- SWC1 (43_load_store.md R487). -/
def execSwc1 (base ft : Reg) (offset : Half) (s : State) : Result :=
  withCop1 s (orFault (store 4 (s.effAddr base offset) ((s.fpr32 ft).setWidth 64) s) .next)

/-- SDC1 (43_load_store.md R488). -/
def execSdc1 (base ft : Reg) (offset : Half) (s : State) : Result :=
  withCop1 s (needPairs [ft] s (orFault (store 8 (s.effAddr base offset) (s.fpr64 ft) s) .next))

end Sys2Proof.Machine
end

