-- ==== Sys2Proof/Machine/MulDiv.lean ====
section
/-! DEFINITION. Multiply, divide and the HI and LO moves (41_integer.md R340 to R351). -/

namespace Sys2Proof.Machine

/-- Write both halves (41_integer.md §5); R47 truncates. -/
def State.setHiLo (s : State) (hi lo : Word) : State := (s.setHi hi).setLo lo

/-- R342: the quotient and remainder of DIV as (LO, HI); none for the overflow. -/
def divWord (a b : Word32) : Option (Word × Word) :=
  if b = 0#32 then some (if 0 ≤ a.toInt then BitVec.allOnes 64 else 1#64, sext32 a)
  else if a = 0x80000000#32 ∧ b = 0xFFFFFFFF#32 then none
  else some (sext32 (BitVec.ofInt 32 (a.toInt.tdiv b.toInt)), sext32 (BitVec.ofInt 32 (a.toInt.tmod b.toInt)))

/-- R343: the quotient and remainder of DIVU as (LO, HI). -/
def divuWord (a b : Word32) : Word × Word :=
  if b = 0#32 then (sext32 0xFFFFFFFF#32, sext32 a)
  else (sext32 (BitVec.ofNat 32 (a.toNat / b.toNat)), sext32 (BitVec.ofNat 32 (a.toNat % b.toNat)))

/-- R346: the quotient and remainder of DDIV as (LO, HI); none for the overflow. -/
def divDouble (a b : Word) : Option (Word × Word) :=
  if b = 0#64 then some (if 0 ≤ a.toInt then BitVec.allOnes 64 else 1#64, a)
  else if a = 0x8000000000000000#64 ∧ b = 0xFFFFFFFFFFFFFFFF#64 then none
  else some (BitVec.ofInt 64 (a.toInt.tdiv b.toInt), BitVec.ofInt 64 (a.toInt.tmod b.toInt))

/-- R347: the quotient and remainder of DDIVU as (LO, HI). -/
def divuDouble (a b : Word) : Word × Word :=
  if b = 0#64 then (BitVec.allOnes 64, a)
  else (BitVec.ofNat 64 (a.toNat / b.toNat), BitVec.ofNat 64 (a.toNat % b.toNat))

/-- R342, R346: the overflow case under `DIV_OVERFLOW`; `lo` is the MIPS quotient. -/
def divOverflowResult (lo : Word) (s : State) : Result :=
  match s.params.divOverflow with
  | .halt => .fault (.divOverflow s.ia)
  | .mips => .next (s.setHiLo 0#64 lo)

/-- MULT (41_integer.md R340). -/
def execMult (rs rt : Reg) (s : State) : Result :=
  let p := BitVec.ofInt 64 ((low32 (s.gpr rs)).toInt * (low32 (s.gpr rt)).toInt)
  .next (s.setHiLo (sext32 (p.extractLsb' 32 32)) (sext32 (low32 p)))

/-- MULTU (41_integer.md R341). -/
def execMultu (rs rt : Reg) (s : State) : Result :=
  let p := BitVec.ofNat 64 ((low32 (s.gpr rs)).toNat * (low32 (s.gpr rt)).toNat)
  .next (s.setHiLo (sext32 (p.extractLsb' 32 32)) (sext32 (low32 p)))

/-- DIV (41_integer.md R342). -/
def execDiv (rs rt : Reg) (s : State) : Result :=
  match divWord (low32 (s.gpr rs)) (low32 (s.gpr rt)) with
  | some (lo, hi) => .next (s.setHiLo hi lo)
  | none => divOverflowResult (sext32 0x80000000#32) s

/-- DIVU (41_integer.md R343). -/
def execDivu (rs rt : Reg) (s : State) : Result :=
  let (lo, hi) := divuWord (low32 (s.gpr rs)) (low32 (s.gpr rt))
  .next (s.setHiLo hi lo)

/-- DMULT (41_integer.md R344). -/
def execDmult (rs rt : Reg) (s : State) : Result :=
  let p := BitVec.ofInt 128 ((s.gpr rs).toInt * (s.gpr rt).toInt)
  .next (s.setHiLo (p.extractLsb' 64 64) (p.extractLsb' 0 64))

/-- DMULTU (41_integer.md R345). -/
def execDmultu (rs rt : Reg) (s : State) : Result :=
  let p := BitVec.ofNat 128 ((s.gpr rs).toNat * (s.gpr rt).toNat)
  .next (s.setHiLo (p.extractLsb' 64 64) (p.extractLsb' 0 64))

/-- DDIV (41_integer.md R346). -/
def execDdiv (rs rt : Reg) (s : State) : Result :=
  match divDouble (s.gpr rs) (s.gpr rt) with
  | some (lo, hi) => .next (s.setHiLo hi lo)
  | none => divOverflowResult 0x8000000000000000#64 s

/-- DDIVU (41_integer.md R347). -/
def execDdivu (rs rt : Reg) (s : State) : Result :=
  let (lo, hi) := divuDouble (s.gpr rs) (s.gpr rt)
  .next (s.setHiLo hi lo)

/-- MFHI (41_integer.md R348). -/
def execMfhi (rd : Reg) (s : State) : Result := .next (s.setGpr rd s.readHi)

/-- MTHI (41_integer.md R349). -/
def execMthi (rs : Reg) (s : State) : Result := .next (s.setHi (s.gpr rs))

/-- MFLO (41_integer.md R350). -/
def execMflo (rd : Reg) (s : State) : Result := .next (s.setGpr rd s.readLo)

/-- MTLO (41_integer.md R351). -/
def execMtlo (rs : Reg) (s : State) : Result := .next (s.setLo (s.gpr rs))

end Sys2Proof.Machine
end

