-- ==== Sys2Proof/Machine/Shift.lean ====
section
/-! DEFINITION. Shifts (41_integer.md R325 to R339). -/

namespace Sys2Proof.Machine

/-! ## 32-bit shifts -/

/-- SLL (41_integer.md R325). -/
def execSll (rt rd : Reg) (sa : BitVec 5) (s : State) : Result :=
  .next (s.setGpr rd (sext32 (low32 (s.gpr rt) <<< shamt sa)))

/-- SRL (41_integer.md R326). -/
def execSrl (rt rd : Reg) (sa : BitVec 5) (s : State) : Result :=
  .next (s.setGpr rd (sext32 (low32 (s.gpr rt) >>> shamt sa)))

/-- SRA (41_integer.md R327). -/
def execSra (rt rd : Reg) (sa : BitVec 5) (s : State) : Result :=
  .next (s.setGpr rd (sext32 ((low32 (s.gpr rt)).sshiftRight (shamt sa))))

/-- SLLV (41_integer.md R328): 5 bits of the amount count. -/
def execSllv (rs rt rd : Reg) (s : State) : Result :=
  .next (s.setGpr rd (sext32 (low32 (s.gpr rt) <<< amount5 (s.gpr rs))))

/-- SRLV (41_integer.md R329): 5 bits of the amount count. -/
def execSrlv (rs rt rd : Reg) (s : State) : Result :=
  .next (s.setGpr rd (sext32 (low32 (s.gpr rt) >>> amount5 (s.gpr rs))))

/-- SRAV (41_integer.md R330): 5 bits of the amount count. -/
def execSrav (rs rt rd : Reg) (s : State) : Result :=
  .next (s.setGpr rd (sext32 ((low32 (s.gpr rt)).sshiftRight (amount5 (s.gpr rs)))))

/-! ## 64-bit shifts -/

/-- DSLL (41_integer.md R331). -/
def execDsll (rt rd : Reg) (sa : BitVec 5) (s : State) : Result := .next (s.setGpr rd (s.gpr rt <<< shamt sa))

/-- DSRL (41_integer.md R332). -/
def execDsrl (rt rd : Reg) (sa : BitVec 5) (s : State) : Result := .next (s.setGpr rd (s.gpr rt >>> shamt sa))

/-- DSRA (41_integer.md R333). -/
def execDsra (rt rd : Reg) (sa : BitVec 5) (s : State) : Result :=
  .next (s.setGpr rd ((s.gpr rt).sshiftRight (shamt sa)))

/-- DSLL32 (41_integer.md R334). -/
def execDsll32 (rt rd : Reg) (sa : BitVec 5) (s : State) : Result := .next (s.setGpr rd (s.gpr rt <<< shamt32 sa))

/-- DSRL32 (41_integer.md R335). -/
def execDsrl32 (rt rd : Reg) (sa : BitVec 5) (s : State) : Result := .next (s.setGpr rd (s.gpr rt >>> shamt32 sa))

/-- DSRA32 (41_integer.md R336). -/
def execDsra32 (rt rd : Reg) (sa : BitVec 5) (s : State) : Result :=
  .next (s.setGpr rd ((s.gpr rt).sshiftRight (shamt32 sa)))

/-- DSLLV (41_integer.md R337): 6 bits of the amount count. -/
def execDsllv (rs rt rd : Reg) (s : State) : Result := .next (s.setGpr rd (s.gpr rt <<< amount6 (s.gpr rs)))

/-- DSRLV (41_integer.md R338): 6 bits of the amount count. -/
def execDsrlv (rs rt rd : Reg) (s : State) : Result := .next (s.setGpr rd (s.gpr rt >>> amount6 (s.gpr rs)))

/-- DSRAV (41_integer.md R339): 6 bits of the amount count. -/
def execDsrav (rs rt rd : Reg) (s : State) : Result :=
  .next (s.setGpr rd ((s.gpr rt).sshiftRight (amount6 (s.gpr rs))))

end Sys2Proof.Machine
end

