-- ==== Sys2Proof/Machine/System.lean ====
section
/-! DEFINITION. COP0 moves, ERET, TLB, CACHE, SYNC, system call and traps (44_cop0_system.md R501 to R548). -/

namespace Sys2Proof.Machine

/-! ## COP0 moves -/

/-- MFC0 (44_cop0_system.md R501). -/
def execMfc0 (rt rd : Reg) (s : State) : Result :=
  orFault (cop0Read rd s) fun (v, s') => .next (s'.setGpr rt (sext32 v))

/-- DMFC0 (44_cop0_system.md R502): exactly as MFC0. -/
def execDmfc0 (rt rd : Reg) (s : State) : Result :=
  orFault (cop0Read rd s) fun (v, s') => .next (s'.setGpr rt (sext32 v))

/-- MTC0 (44_cop0_system.md R503). -/
def execMtc0 (rt rd : Reg) (s : State) : Result := .next (cop0Write rd (low32 (s.gpr rt)) s)

/-- DMTC0 (44_cop0_system.md R504): exactly as MTC0. -/
def execDmtc0 (rt rd : Reg) (s : State) : Result := .next (cop0Write rd (low32 (s.gpr rt)) s)

/-! ## Return from exception -/

/-- ERET (44_cop0_system.md R510): no delay slot. -/
def execEret (s : State) : Result := controlTransfer s (.next (returnFromException s))

/-! ## TLB, cache and ordering: no effect (the `TLB_OPS` check is the step's, log 22) -/

/-- TLBR (44_cop0_system.md R520). -/
def execTlbr (s : State) : Result := .next s

/-- TLBWI (44_cop0_system.md R521). -/
def execTlbwi (s : State) : Result := .next s

/-- TLBWR (44_cop0_system.md R522). -/
def execTlbwr (s : State) : Result := .next s

/-- TLBP (44_cop0_system.md R523). -/
def execTlbp (s : State) : Result := .next s

/-- CACHE (44_cop0_system.md R530): the address is not even computed. -/
def execCache (_base : Reg) (_op : BitVec 5) (_offset : Half) (s : State) : Result := .next s

/-- SYNC (44_cop0_system.md R531). -/
def execSync (_stype : BitVec 5) (s : State) : Result := .next s

/-! ## System call, breakpoint and traps (the `TRAP_INSNS` check is the step's, log 22) -/

/-- SYSCALL (44_cop0_system.md R535). -/
def execSyscall (_code : BitVec 20) (s : State) : Result := raiseExc ExcCode.sys 0#2 s

/-- BREAK (44_cop0_system.md R536). -/
def execBreak (_code : BitVec 20) (s : State) : Result := raiseExc ExcCode.bp 0#2 s

/-- TGE (44_cop0_system.md R537). -/
def execTge (rs rt : Reg) (_code : BitVec 10) (s : State) : Result := trapIf (!(s.gpr rs).slt (s.gpr rt)) s

/-- TGEU (44_cop0_system.md R538). -/
def execTgeu (rs rt : Reg) (_code : BitVec 10) (s : State) : Result := trapIf (!(s.gpr rs).ult (s.gpr rt)) s

/-- TLT (44_cop0_system.md R539). -/
def execTlt (rs rt : Reg) (_code : BitVec 10) (s : State) : Result := trapIf ((s.gpr rs).slt (s.gpr rt)) s

/-- TLTU (44_cop0_system.md R540). -/
def execTltu (rs rt : Reg) (_code : BitVec 10) (s : State) : Result := trapIf ((s.gpr rs).ult (s.gpr rt)) s

/-- TEQ (44_cop0_system.md R541). -/
def execTeq (rs rt : Reg) (_code : BitVec 10) (s : State) : Result := trapIf ((s.gpr rs) == (s.gpr rt)) s

/-- TNE (44_cop0_system.md R542). -/
def execTne (rs rt : Reg) (_code : BitVec 10) (s : State) : Result := trapIf ((s.gpr rs) != (s.gpr rt)) s

/-- TGEI (44_cop0_system.md R543). -/
def execTgei (rs : Reg) (imm : Half) (s : State) : Result := trapIf (!(s.gpr rs).slt (immS imm)) s

/-- TGEIU (44_cop0_system.md R544). -/
def execTgeiu (rs : Reg) (imm : Half) (s : State) : Result := trapIf (!(s.gpr rs).ult (immS imm)) s

/-- TLTI (44_cop0_system.md R545). -/
def execTlti (rs : Reg) (imm : Half) (s : State) : Result := trapIf ((s.gpr rs).slt (immS imm)) s

/-- TLTIU (44_cop0_system.md R546). -/
def execTltiu (rs : Reg) (imm : Half) (s : State) : Result := trapIf ((s.gpr rs).ult (immS imm)) s

/-- TEQI (44_cop0_system.md R547). -/
def execTeqi (rs : Reg) (imm : Half) (s : State) : Result := trapIf ((s.gpr rs) == (immS imm)) s

/-- TNEI (44_cop0_system.md R548). -/
def execTnei (rs : Reg) (imm : Half) (s : State) : Result := trapIf ((s.gpr rs) != (immS imm)) s

end Sys2Proof.Machine
end

