-- ==== Sys2Proof/Machine/Cycle.lean ====
section
/-! DEFINITION. The parts of one step (40_cycle.md R261): the environment's action, the interrupt check, the timer tick,
fetch, admission, execution and the delayed branch. -/

namespace Sys2Proof.Machine

/-- One action of the environment (40_cycle.md R282): device registers change, and a change of the pending or the mask
bits updates the aggregate (60_exceptions.md R740). -/
def EnvAction.act (a : EnvAction) (s : State) : State :=
  let t := { s with
    blocks := s.blocks.setRegs a.regs
    miIntr := a.intr.getD s.miIntr
    miMask := a.mask.getD s.miMask }
  if a.intr.isSome || a.mask.isSome then syncAggregate t else t

/-- R282: what the environment does before this step (log 16). -/
def applyEnv (s : State) : State :=
  match s.env with
  | [] => s
  | a :: rest => a.act { s with env := rest }

/-- 60_exceptions.md R720: the interrupt check, phase 1. -/
def checkInterrupts (s : State) : State :=
  if interruptTaken s.status s.cause then exceptionEntry ExcCode.int 0#2 s.pc s.inDelay s else s

/-- One tick of the tick counter (60_exceptions.md R730). -/
def countTick (s : State) : State := { s with ticks := s.ticks + 1#64 }

/-- 60_exceptions.md R730: the timer tick, phase 2. -/
def timerTick (s : State) : State :=
  if (countTick s).count = s.cop0 Cop0.compare then
    (countTick s).setCop0 Cop0.cause (Cause.setTimer s.cause true)
  else countTick s

/-- The state that the fetch of this step sees. -/
def prefetch (s : State) : State := timerTick (checkInterrupts (applyEnv s))

/-- 40_cycle.md R264: the word at `pc` and the state after the fetch, `pc` advanced. -/
def fetch (s : State) : Except Fault (Word32 × State) :=
  if aligned 4 s.pc then
    match load 4 s.pc s with
    | .error f => .error f
    | .ok (w, t) => .ok (low32 w, { t with pc := s.pc + 4#64 })
  else .error (.misaligned s.pc 4)

/-- The rows that a parameter admits (44_cop0_system.md §4, §5). -/
inductive Gate where
  | always
  | trap
  | tlb
  deriving DecidableEq, Repr

/-- The parameter that admits the instruction: `TRAP_INSNS` for R535 to R548, `TLB_OPS` for R520 to R523. -/
def gate : Instr → Gate
  | .syscall _ | .brk _ => .trap
  | .tge .. | .tgeu .. | .tlt .. | .tltu .. | .teq .. | .tne .. => .trap
  | .tgei .. | .tgeiu .. | .tlti .. | .tltiu .. | .teqi .. | .tnei .. => .trap
  | .tlbr | .tlbwi | .tlbwr | .tlbp => .tlb
  | _ => .always

/-- 30_encoding.md R240: `Implemented(row)`; NOP always is (41_integer.md R352; log 22). -/
def implemented (p : Params) (i : Instr) : Bool :=
  i == .nop ||
    (!p.excluded.contains i.mnemonic &&
      match gate i with
      | .always => true
      | .trap => p.trapInsns == .raise
      | .tlb => p.tlbOps == .nop)

/-- Phases 4 and 5 (R265, R266, R271), for the word that was fetched; a halt comes with the state it leaves. -/
def runWord (w : Word32) (s : State) : Host.Outcome State (Fault × State) Refusal :=
  match decode w with
  | .error _ => .fault (.unimplemented w, s)
  | .ok i =>
    if implemented s.params i then
      match exec i s with
      | .next t => .next (resolveBranch t)
      | .fault f => .fault (f, s)
      | .refused r => .refused r
    else .fault (.unimplemented w, s)

/-- R261: one step of a state that is not halted; a halt comes with the state it leaves. -/
def cycle (s : State) : Host.Outcome State (Fault × State) Refusal :=
  match fetch (prefetch s) with
  | .error f => .fault (f, prefetch s)
  | .ok (w, t) => runWord w t

/-- Store a word where the next step fetches. -/
def placeWord (w : Word32) (s : State) : State :=
  match translateAddr (prefetch s).pc with
  | .ok pa => { s with mem := s.mem.writeBE pa 4 (w.setWidth 64) }
  | .error _ => s

end Sys2Proof.Machine
end

