-- ==== Sys2Proof/Machine/Step.lean ====
section
/-! DEFINITION. One step of the machine (40_cycle.md R261, R280), and how the host places an instruction. -/

namespace Sys2Proof.Machine

/-- One step. A halted state has none (R280); a halt is a fault. -/
def step (s : State) : Host.Outcome State Fault Refusal :=
  match s.halted with
  | some f => .fault f
  | none =>
    match cycle s with
    | .next t => .next t
    | .fault (f, _) => .fault f
    | .refused r => .refused r

/-- `s` with the instruction of a word of the opcode table stored where `step` fetches next (log 25). -/
def State.withFetchWord (s : State) (nbits w : Nat) : State := placeWord (tableWord nbits w) s

end Sys2Proof.Machine
end

