-- ==== Sys2Proof/Machine/Driver.lean ====
section
/-! DEFINITION. The driver's interface: `Tick(n)` over halting states (40_cycle.md R260, R280). -/

namespace Sys2Proof.Machine

/-- The halted state that a halt leaves (10_state.md R48). -/
def haltWith (f : Fault) (s : State) : State := { s with halted := some f }

/-- One step that records a halt in the state. -/
def stepOrHalt (s : State) : State :=
  match s.halted with
  | some _ => s
  | none =>
    match cycle s with
    | .next t => t
    | .fault (f, t) => haltWith f t
    | .refused _ => s

/-- R260: `Tick(n)`: n steps, stopping early at a halt. -/
def tick : Nat → State → State
  | 0, s => s
  | n + 1, s => if s.halted.isSome then s else tick n (stepOrHalt s)

end Sys2Proof.Machine
end

