-- ==== Sys2Proof/Safety.lean ====
section
/-! DEFINITION. The terms that the statements about the machine use: the invariant of a state, what an instruction may
touch, which instructions the spec names as the writers of each piece of state, and what completing means. -/

namespace Sys2Proof.Machine

/-- What holds between steps, in every state that a run reaches: memory and the devices' register blocks in their
canonical form; the delayed branch due now or absent (40_cycle.md R272); Cause bit 10 in line with the interrupt
controller (60_exceptions.md R740); the bits of Cause that read 0 (10_state.md R54); HI and LO within `HILO_W` bits
(R47); BadVAddr as at reset (R57); the two cells of the COP0 file that hold no register, Random's and Count's, unused
(log 24). -/
structure State.Inv (s : State) : Prop where
  memory    : s.mem.wf
  blocks    : ∀ id, (s.blocks.get id).wf
  branch    : ∀ p, s.pending = some p → p.countdown = .one
  aggregate : bit s.cause 10 = aggregate s.miIntr s.miMask
  causeZero : s.cause &&& 0x4FFF7883#32 = 0#32
  hi        : HiLo.trunc s.params.hiloWidth s.hi = s.hi
  lo        : HiLo.trunc s.params.hiloWidth s.lo = s.lo
  badVAddr  : s.cop0 Cop0.badVAddr = 0#32
  random    : s.cop0 Cop0.random = 0#32
  count     : s.cop0 Cop0.count = 0#32

/-- A step that does not halt. -/
def SafeStep (s : State) : Prop := ∃ t, step s = .next t

/-- What an instruction may touch: general registers, COP1 slots, COP0 registers by number; HI and LO, FCSR, the
load-linked flag, the program counter with the delayed-branch slot, the model's draw counter; and the bytes it stores
to, as the first address and how many. -/
structure Touch where
  gprs    : List Reg := []
  slots   : List Reg := []
  cop0    : List Reg := []
  hi      : Bool := false
  lo      : Bool := false
  fcsr    : Bool := false
  llbit   : Bool := false
  control : Bool := false
  draws   : Bool := false
  bytes   : Nat × Nat := (0, 0)

/-- Everything but what `c` names is unchanged from `s` to `t`. -/
structure Frame (c : Touch) (s t : State) : Prop where
  gprs    : ∀ r, r ∉ c.gprs → t.gpr r = s.gpr r
  slots   : ∀ n, n ∉ c.slots → t.slot n = s.slot n
  cop0    : ∀ r, r ∉ c.cop0 → t.cop0 r = s.cop0 r
  hi      : c.hi = false → t.hi = s.hi
  lo      : c.lo = false → t.lo = s.lo
  fcsr    : c.fcsr = false → t.fcr31 = s.fcr31
  llbit   : c.llbit = false → t.llbit = s.llbit
  pc      : c.control = false → t.pc = s.pc
  pending : c.control = false → t.pending = s.pending
  draws   : c.draws = false → t.draws = s.draws
  bytes   : ∀ a, ¬ (c.bytes.1 ≤ a ∧ a < c.bytes.1 + c.bytes.2) → t.mem.byte a = s.mem.byte a
  ticks   : t.ticks = s.ticks
  halted  : t.halted = s.halted
  rom     : t.rom = s.rom
  blocks  : t.blocks = s.blocks
  miIntr  : t.miIntr = s.miIntr
  miMask  : t.miMask = s.miMask
  env     : t.env = s.env
  params  : t.params = s.params

/-- The answer is a next state that differs from `s` only in what `c` names, and of which `P` holds. -/
def Completes (o : Result) (c : Touch) (s : State) (P : State → Prop) : Prop :=
  ∃ t, o = .next t ∧ Frame c s t ∧ P t

/-- The instruction completes and writes `v` to general register `r`; where `r` is 0 the value is discarded
(10_state.md R41). -/
def WritesGpr (o : Result) (s : State) (r : Reg) (v : Word) : Prop :=
  Completes o { gprs := [r] } s fun t => t.gpr r = if r = 0#5 then 0#64 else v

/-- The instruction completes and writes the low half of slot `n`, and nothing else (10_state.md R112). -/
def WritesFpr32 (o : Result) (s : State) (n : Reg) (v : Word32) : Prop :=
  Completes o { slots := [n] } s fun t => t.slot n = (s.slot n).extractLsb' 32 32 ++ v

/-- The slots that a 64-bit write of register `n` reaches (10_state.md R114). -/
def pairSlots (s : State) (n : Reg) : List Reg := if Status.fr s.status then [n] else [n, n + 1#5]

/-- The instruction completes and writes the 64-bit value of register `n`, and nothing else: with FR = 1 its slot, with
FR = 0 the low halves of slots `n` and `n + 1` (10_state.md R114). -/
def WritesFpr64 (o : Result) (s : State) (n : Reg) (v : Word) : Prop :=
  Completes o { slots := pairSlots s n } s fun t =>
    if Status.fr s.status then t.slot n = v
    else t.slot n = (s.slot n).extractLsb' 32 32 ++ v.extractLsb' 0 32 ∧
      t.slot (n + 1#5) = (s.slot (n + 1#5)).extractLsb' 32 32 ++ v.extractLsb' 32 32

/-- COP1 is usable (45_fpu_move_arith.md R550). -/
def Cop1Usable (s : State) : Prop := s.status.getLsbD 29 = true

/-- Every register of the list may be accessed with 64 bits (10_state.md R113, R114): FR = 1, or it is even. -/
def EvenWhenPaired (s : State) (ns : List Reg) : Prop := s.status.getLsbD 26 = true ∨ ∀ n ∈ ns, n.getLsbD 0 = false

/-- The instruction at `s` is not in a delay slot (40_cycle.md R267). -/
def NotInDelaySlot (s : State) : Prop := s.pending = none

/-! ## Which instructions write what -/

/-- 10_state.md R44: the general register that an instruction writes. -/
def gprDest : Instr → Option Reg
  | .sll _ rd _ | .srl _ rd _ | .sra _ rd _ | .sllv _ _ rd | .srlv _ _ rd | .srav _ _ rd | .jalr _ rd
  | .mfhi rd | .mflo rd | .dsllv _ _ rd | .dsrlv _ _ rd | .dsrav _ _ rd | .add _ _ rd | .addu _ _ rd
  | .sub _ _ rd | .subu _ _ rd | .and _ _ rd | .or _ _ rd | .xor _ _ rd | .nor _ _ rd | .slt _ _ rd
  | .sltu _ _ rd | .dadd _ _ rd | .daddu _ _ rd | .dsub _ _ rd | .dsubu _ _ rd | .dsll _ rd _
  | .dsrl _ rd _ | .dsra _ rd _ | .dsll32 _ rd _ | .dsrl32 _ rd _ | .dsra32 _ rd _ => some rd
  | .addi _ rt _ | .addiu _ rt _ | .slti _ rt _ | .sltiu _ rt _ | .andi _ rt _ | .ori _ rt _
  | .xori _ rt _ | .lui rt _ | .daddi _ rt _ | .daddiu _ rt _ | .ldl _ rt _ | .ldr _ rt _ | .lb _ rt _
  | .lh _ rt _ | .lwl _ rt _ | .lw _ rt _ | .lbu _ rt _ | .lhu _ rt _ | .lwr _ rt _ | .lwu _ rt _
  | .ll _ rt _ | .lld _ rt _ | .ld _ rt _ | .sc _ rt _ | .scd _ rt _ | .mfc0 rt _ | .dmfc0 rt _
  | .mfc1 rt _ | .dmfc1 rt _ | .cfc1 rt _ => some rt
  | .bltzal .. | .bgezal .. | .bltzall .. | .bgezall .. | .jal .. => some 31#5
  | .jr .. | .syscall .. | .brk .. | .sync .. | .mthi .. | .mtlo .. | .mult .. | .multu .. | .div ..
  | .divu .. | .dmult .. | .dmultu .. | .ddiv .. | .ddivu .. | .tge .. | .tgeu .. | .tlt .. | .tltu ..
  | .teq .. | .tne .. | .nop | .bltz .. | .bgez .. | .bltzl .. | .bgezl .. | .tgei .. | .tgeiu ..
  | .tlti .. | .tltiu .. | .teqi .. | .tnei .. | .j .. | .beq .. | .bne .. | .blez .. | .bgtz ..
  | .beql .. | .bnel .. | .blezl .. | .bgtzl .. | .sb .. | .sh .. | .swl .. | .sw .. | .sdl ..
  | .sdr .. | .swr .. | .cache .. | .lwc1 .. | .ldc1 .. | .swc1 .. | .sdc1 .. | .sd .. | .mtc0 ..
  | .dmtc0 .. | .eret | .tlbr | .tlbwi | .tlbwr | .tlbp | .mtc1 .. | .dmtc1 .. | .ctc1 .. | .bc1f ..
  | .bc1t .. | .bc1fl .. | .bc1tl .. | .addS .. | .addD .. | .subS .. | .subD .. | .mulS .. | .mulD ..
  | .divS .. | .divD .. | .sqrtS .. | .sqrtD .. | .absS .. | .absD .. | .movS .. | .movD .. | .negS ..
  | .negD .. | .cvtSD .. | .cvtSW .. | .cvtSL .. | .cvtDS .. | .cvtDW .. | .cvtDL .. | .cvtWS ..
  | .cvtWD .. | .cvtLS .. | .cvtLD .. | .roundWS .. | .roundWD .. | .truncWS .. | .truncWD ..
  | .ceilWS .. | .ceilWD .. | .floorWS .. | .floorWD .. | .roundLS .. | .roundLD .. | .truncLS ..
  | .truncLD .. | .ceilLS .. | .ceilLD .. | .floorLS .. | .floorLD .. | .cFS .. | .cFD .. | .cUnS ..
  | .cUnD .. | .cEqS .. | .cEqD .. | .cUeqS .. | .cUeqD .. | .cOltS .. | .cOltD .. | .cUltS ..
  | .cUltD .. | .cOleS .. | .cOleD .. | .cUleS .. | .cUleD .. | .cSfS .. | .cSfD .. | .cNgleS ..
  | .cNgleD .. | .cSeqS .. | .cSeqD .. | .cNglS .. | .cNglD .. | .cLtS .. | .cLtD .. | .cNgeS ..
  | .cNgeD .. | .cLeS .. | .cLeD .. | .cNgtS .. | .cNgtD .. => none

/-- 10_state.md R46: the writers of HI. -/
def writesHi : Instr → Bool
  | .mult .. | .multu .. | .div .. | .divu .. | .dmult .. | .dmultu .. | .ddiv .. | .ddivu ..
  | .mthi .. => true
  | .sll .. | .srl .. | .sra .. | .sllv .. | .srlv .. | .srav .. | .jr .. | .jalr .. | .syscall ..
  | .brk .. | .sync .. | .mfhi .. | .mflo .. | .mtlo .. | .dsllv .. | .dsrlv .. | .dsrav .. | .add ..
  | .addu .. | .sub .. | .subu .. | .and .. | .or .. | .xor .. | .nor .. | .slt .. | .sltu ..
  | .dadd .. | .daddu .. | .dsub .. | .dsubu .. | .tge .. | .tgeu .. | .tlt .. | .tltu .. | .teq ..
  | .tne .. | .dsll .. | .dsrl .. | .dsra .. | .dsll32 .. | .dsrl32 .. | .dsra32 .. | .nop | .bltz ..
  | .bgez .. | .bltzl .. | .bgezl .. | .tgei .. | .tgeiu .. | .tlti .. | .tltiu .. | .teqi ..
  | .tnei .. | .bltzal .. | .bgezal .. | .bltzall .. | .bgezall .. | .j .. | .jal .. | .beq ..
  | .bne .. | .blez .. | .bgtz .. | .addi .. | .addiu .. | .slti .. | .sltiu .. | .andi .. | .ori ..
  | .xori .. | .lui .. | .beql .. | .bnel .. | .blezl .. | .bgtzl .. | .daddi .. | .daddiu .. | .ldl ..
  | .ldr .. | .lb .. | .lh .. | .lwl .. | .lw .. | .lbu .. | .lhu .. | .lwr .. | .lwu .. | .sb ..
  | .sh .. | .swl .. | .sw .. | .sdl .. | .sdr .. | .swr .. | .cache .. | .ll .. | .lwc1 .. | .lld ..
  | .ldc1 .. | .ld .. | .sc .. | .swc1 .. | .scd .. | .sdc1 .. | .sd .. | .mfc0 .. | .dmfc0 ..
  | .mtc0 .. | .dmtc0 .. | .eret | .tlbr | .tlbwi | .tlbwr | .tlbp | .mfc1 .. | .dmfc1 .. | .cfc1 ..
  | .mtc1 .. | .dmtc1 .. | .ctc1 .. | .bc1f .. | .bc1t .. | .bc1fl .. | .bc1tl .. | .addS .. | .addD ..
  | .subS .. | .subD .. | .mulS .. | .mulD .. | .divS .. | .divD .. | .sqrtS .. | .sqrtD .. | .absS ..
  | .absD .. | .movS .. | .movD .. | .negS .. | .negD .. | .cvtSD .. | .cvtSW .. | .cvtSL ..
  | .cvtDS .. | .cvtDW .. | .cvtDL .. | .cvtWS .. | .cvtWD .. | .cvtLS .. | .cvtLD .. | .roundWS ..
  | .roundWD .. | .truncWS .. | .truncWD .. | .ceilWS .. | .ceilWD .. | .floorWS .. | .floorWD ..
  | .roundLS .. | .roundLD .. | .truncLS .. | .truncLD .. | .ceilLS .. | .ceilLD .. | .floorLS ..
  | .floorLD .. | .cFS .. | .cFD .. | .cUnS .. | .cUnD .. | .cEqS .. | .cEqD .. | .cUeqS .. | .cUeqD ..
  | .cOltS .. | .cOltD .. | .cUltS .. | .cUltD .. | .cOleS .. | .cOleD .. | .cUleS .. | .cUleD ..
  | .cSfS .. | .cSfD .. | .cNgleS .. | .cNgleD .. | .cSeqS .. | .cSeqD .. | .cNglS .. | .cNglD ..
  | .cLtS .. | .cLtD .. | .cNgeS .. | .cNgeD .. | .cLeS .. | .cLeD .. | .cNgtS .. | .cNgtD .. => false

/-- 10_state.md R46: the writers of LO. -/
def writesLo : Instr → Bool
  | .mult .. | .multu .. | .div .. | .divu .. | .dmult .. | .dmultu .. | .ddiv .. | .ddivu ..
  | .mtlo .. => true
  | .sll .. | .srl .. | .sra .. | .sllv .. | .srlv .. | .srav .. | .jr .. | .jalr .. | .syscall ..
  | .brk .. | .sync .. | .mfhi .. | .mthi .. | .mflo .. | .dsllv .. | .dsrlv .. | .dsrav .. | .add ..
  | .addu .. | .sub .. | .subu .. | .and .. | .or .. | .xor .. | .nor .. | .slt .. | .sltu ..
  | .dadd .. | .daddu .. | .dsub .. | .dsubu .. | .tge .. | .tgeu .. | .tlt .. | .tltu .. | .teq ..
  | .tne .. | .dsll .. | .dsrl .. | .dsra .. | .dsll32 .. | .dsrl32 .. | .dsra32 .. | .nop | .bltz ..
  | .bgez .. | .bltzl .. | .bgezl .. | .tgei .. | .tgeiu .. | .tlti .. | .tltiu .. | .teqi ..
  | .tnei .. | .bltzal .. | .bgezal .. | .bltzall .. | .bgezall .. | .j .. | .jal .. | .beq ..
  | .bne .. | .blez .. | .bgtz .. | .addi .. | .addiu .. | .slti .. | .sltiu .. | .andi .. | .ori ..
  | .xori .. | .lui .. | .beql .. | .bnel .. | .blezl .. | .bgtzl .. | .daddi .. | .daddiu .. | .ldl ..
  | .ldr .. | .lb .. | .lh .. | .lwl .. | .lw .. | .lbu .. | .lhu .. | .lwr .. | .lwu .. | .sb ..
  | .sh .. | .swl .. | .sw .. | .sdl .. | .sdr .. | .swr .. | .cache .. | .ll .. | .lwc1 .. | .lld ..
  | .ldc1 .. | .ld .. | .sc .. | .swc1 .. | .scd .. | .sdc1 .. | .sd .. | .mfc0 .. | .dmfc0 ..
  | .mtc0 .. | .dmtc0 .. | .eret | .tlbr | .tlbwi | .tlbwr | .tlbp | .mfc1 .. | .dmfc1 .. | .cfc1 ..
  | .mtc1 .. | .dmtc1 .. | .ctc1 .. | .bc1f .. | .bc1t .. | .bc1fl .. | .bc1tl .. | .addS .. | .addD ..
  | .subS .. | .subD .. | .mulS .. | .mulD .. | .divS .. | .divD .. | .sqrtS .. | .sqrtD .. | .absS ..
  | .absD .. | .movS .. | .movD .. | .negS .. | .negD .. | .cvtSD .. | .cvtSW .. | .cvtSL ..
  | .cvtDS .. | .cvtDW .. | .cvtDL .. | .cvtWS .. | .cvtWD .. | .cvtLS .. | .cvtLD .. | .roundWS ..
  | .roundWD .. | .truncWS .. | .truncWD .. | .ceilWS .. | .ceilWD .. | .floorWS .. | .floorWD ..
  | .roundLS .. | .roundLD .. | .truncLS .. | .truncLD .. | .ceilLS .. | .ceilLD .. | .floorLS ..
  | .floorLD .. | .cFS .. | .cFD .. | .cUnS .. | .cUnD .. | .cEqS .. | .cEqD .. | .cUeqS .. | .cUeqD ..
  | .cOltS .. | .cOltD .. | .cUltS .. | .cUltD .. | .cOleS .. | .cOleD .. | .cUleS .. | .cUleD ..
  | .cSfS .. | .cSfD .. | .cNgleS .. | .cNgleD .. | .cSeqS .. | .cSeqD .. | .cNglS .. | .cNglD ..
  | .cLtS .. | .cLtD .. | .cNgeS .. | .cNgeD .. | .cLeS .. | .cLeD .. | .cNgtS .. | .cNgtD .. => false

/-- 10_state.md R117: the compares, which write the condition bit. -/
def isCompare : Instr → Bool
  | .cFS .. | .cFD .. | .cUnS .. | .cUnD .. | .cEqS .. | .cEqD .. | .cUeqS .. | .cUeqD .. | .cOltS ..
  | .cOltD .. | .cUltS .. | .cUltD .. | .cOleS .. | .cOleD .. | .cUleS .. | .cUleD .. | .cSfS ..
  | .cSfD .. | .cNgleS .. | .cNgleD .. | .cSeqS .. | .cSeqD .. | .cNglS .. | .cNglD .. | .cLtS ..
  | .cLtD .. | .cNgeS .. | .cNgeD .. | .cLeS .. | .cLeD .. | .cNgtS .. | .cNgtD .. => true
  | .sll .. | .srl .. | .sra .. | .sllv .. | .srlv .. | .srav .. | .jr .. | .jalr .. | .syscall ..
  | .brk .. | .sync .. | .mfhi .. | .mthi .. | .mflo .. | .mtlo .. | .dsllv .. | .dsrlv .. | .dsrav ..
  | .mult .. | .multu .. | .div .. | .divu .. | .dmult .. | .dmultu .. | .ddiv .. | .ddivu .. | .add ..
  | .addu .. | .sub .. | .subu .. | .and .. | .or .. | .xor .. | .nor .. | .slt .. | .sltu ..
  | .dadd .. | .daddu .. | .dsub .. | .dsubu .. | .tge .. | .tgeu .. | .tlt .. | .tltu .. | .teq ..
  | .tne .. | .dsll .. | .dsrl .. | .dsra .. | .dsll32 .. | .dsrl32 .. | .dsra32 .. | .nop | .bltz ..
  | .bgez .. | .bltzl .. | .bgezl .. | .tgei .. | .tgeiu .. | .tlti .. | .tltiu .. | .teqi ..
  | .tnei .. | .bltzal .. | .bgezal .. | .bltzall .. | .bgezall .. | .j .. | .jal .. | .beq ..
  | .bne .. | .blez .. | .bgtz .. | .addi .. | .addiu .. | .slti .. | .sltiu .. | .andi .. | .ori ..
  | .xori .. | .lui .. | .beql .. | .bnel .. | .blezl .. | .bgtzl .. | .daddi .. | .daddiu .. | .ldl ..
  | .ldr .. | .lb .. | .lh .. | .lwl .. | .lw .. | .lbu .. | .lhu .. | .lwr .. | .lwu .. | .sb ..
  | .sh .. | .swl .. | .sw .. | .sdl .. | .sdr .. | .swr .. | .cache .. | .ll .. | .lwc1 .. | .lld ..
  | .ldc1 .. | .ld .. | .sc .. | .swc1 .. | .scd .. | .sdc1 .. | .sd .. | .mfc0 .. | .dmfc0 ..
  | .mtc0 .. | .dmtc0 .. | .eret | .tlbr | .tlbwi | .tlbwr | .tlbp | .mfc1 .. | .dmfc1 .. | .cfc1 ..
  | .mtc1 .. | .dmtc1 .. | .ctc1 .. | .bc1f .. | .bc1t .. | .bc1fl .. | .bc1tl .. | .addS .. | .addD ..
  | .subS .. | .subD .. | .mulS .. | .mulD .. | .divS .. | .divD .. | .sqrtS .. | .sqrtD .. | .absS ..
  | .absD .. | .movS .. | .movD .. | .negS .. | .negD .. | .cvtSD .. | .cvtSW .. | .cvtSL ..
  | .cvtDS .. | .cvtDW .. | .cvtDL .. | .cvtWS .. | .cvtWD .. | .cvtLS .. | .cvtLD .. | .roundWS ..
  | .roundWD .. | .truncWS .. | .truncWD .. | .ceilWS .. | .ceilWD .. | .floorWS .. | .floorWD ..
  | .roundLS .. | .roundLD .. | .truncLS .. | .truncLD .. | .ceilLS .. | .ceilLD .. | .floorLS ..
  | .floorLD .. => false

/-- 10_state.md R112: the COP1 register of which an instruction writes 32 bits. -/
def fprDest32 : Instr → Option Reg
  | .addS _ _ fd | .subS _ _ fd | .mulS _ _ fd | .divS _ _ fd | .sqrtS _ fd | .absS _ fd | .movS _ fd
  | .negS _ fd | .cvtSD _ fd | .cvtSW _ fd | .cvtSL _ fd | .cvtWS _ fd | .cvtWD _ fd | .roundWS _ fd
  | .roundWD _ fd | .truncWS _ fd | .truncWD _ fd | .ceilWS _ fd | .ceilWD _ fd | .floorWS _ fd
  | .floorWD _ fd => some fd
  | .mtc1 _ fs => some fs
  | .lwc1 _ ft _ => some ft
  | .sll .. | .srl .. | .sra .. | .sllv .. | .srlv .. | .srav .. | .jr .. | .jalr .. | .syscall ..
  | .brk .. | .sync .. | .mfhi .. | .mthi .. | .mflo .. | .mtlo .. | .dsllv .. | .dsrlv .. | .dsrav ..
  | .mult .. | .multu .. | .div .. | .divu .. | .dmult .. | .dmultu .. | .ddiv .. | .ddivu .. | .add ..
  | .addu .. | .sub .. | .subu .. | .and .. | .or .. | .xor .. | .nor .. | .slt .. | .sltu ..
  | .dadd .. | .daddu .. | .dsub .. | .dsubu .. | .tge .. | .tgeu .. | .tlt .. | .tltu .. | .teq ..
  | .tne .. | .dsll .. | .dsrl .. | .dsra .. | .dsll32 .. | .dsrl32 .. | .dsra32 .. | .nop | .bltz ..
  | .bgez .. | .bltzl .. | .bgezl .. | .tgei .. | .tgeiu .. | .tlti .. | .tltiu .. | .teqi ..
  | .tnei .. | .bltzal .. | .bgezal .. | .bltzall .. | .bgezall .. | .j .. | .jal .. | .beq ..
  | .bne .. | .blez .. | .bgtz .. | .addi .. | .addiu .. | .slti .. | .sltiu .. | .andi .. | .ori ..
  | .xori .. | .lui .. | .beql .. | .bnel .. | .blezl .. | .bgtzl .. | .daddi .. | .daddiu .. | .ldl ..
  | .ldr .. | .lb .. | .lh .. | .lwl .. | .lw .. | .lbu .. | .lhu .. | .lwr .. | .lwu .. | .sb ..
  | .sh .. | .swl .. | .sw .. | .sdl .. | .sdr .. | .swr .. | .cache .. | .ll .. | .lld .. | .ldc1 ..
  | .ld .. | .sc .. | .swc1 .. | .scd .. | .sdc1 .. | .sd .. | .mfc0 .. | .dmfc0 .. | .mtc0 ..
  | .dmtc0 .. | .eret | .tlbr | .tlbwi | .tlbwr | .tlbp | .mfc1 .. | .dmfc1 .. | .cfc1 .. | .dmtc1 ..
  | .ctc1 .. | .bc1f .. | .bc1t .. | .bc1fl .. | .bc1tl .. | .addD .. | .subD .. | .mulD .. | .divD ..
  | .sqrtD .. | .absD .. | .movD .. | .negD .. | .cvtDS .. | .cvtDW .. | .cvtDL .. | .cvtLS ..
  | .cvtLD .. | .roundLS .. | .roundLD .. | .truncLS .. | .truncLD .. | .ceilLS .. | .ceilLD ..
  | .floorLS .. | .floorLD .. | .cFS .. | .cFD .. | .cUnS .. | .cUnD .. | .cEqS .. | .cEqD ..
  | .cUeqS .. | .cUeqD .. | .cOltS .. | .cOltD .. | .cUltS .. | .cUltD .. | .cOleS .. | .cOleD ..
  | .cUleS .. | .cUleD .. | .cSfS .. | .cSfD .. | .cNgleS .. | .cNgleD .. | .cSeqS .. | .cSeqD ..
  | .cNglS .. | .cNglD .. | .cLtS .. | .cLtD .. | .cNgeS .. | .cNgeD .. | .cLeS .. | .cLeD ..
  | .cNgtS .. | .cNgtD .. => none

/-- 10_state.md R114: the COP1 register of which an instruction writes 64 bits. -/
def fprDest64 : Instr → Option Reg
  | .addD _ _ fd | .subD _ _ fd | .mulD _ _ fd | .divD _ _ fd | .sqrtD _ fd | .absD _ fd | .movD _ fd
  | .negD _ fd | .cvtDS _ fd | .cvtDW _ fd | .cvtDL _ fd | .cvtLS _ fd | .cvtLD _ fd | .roundLS _ fd
  | .roundLD _ fd | .truncLS _ fd | .truncLD _ fd | .ceilLS _ fd | .ceilLD _ fd | .floorLS _ fd
  | .floorLD _ fd => some fd
  | .dmtc1 _ fs => some fs
  | .ldc1 _ ft _ => some ft
  | .sll .. | .srl .. | .sra .. | .sllv .. | .srlv .. | .srav .. | .jr .. | .jalr .. | .syscall ..
  | .brk .. | .sync .. | .mfhi .. | .mthi .. | .mflo .. | .mtlo .. | .dsllv .. | .dsrlv .. | .dsrav ..
  | .mult .. | .multu .. | .div .. | .divu .. | .dmult .. | .dmultu .. | .ddiv .. | .ddivu .. | .add ..
  | .addu .. | .sub .. | .subu .. | .and .. | .or .. | .xor .. | .nor .. | .slt .. | .sltu ..
  | .dadd .. | .daddu .. | .dsub .. | .dsubu .. | .tge .. | .tgeu .. | .tlt .. | .tltu .. | .teq ..
  | .tne .. | .dsll .. | .dsrl .. | .dsra .. | .dsll32 .. | .dsrl32 .. | .dsra32 .. | .nop | .bltz ..
  | .bgez .. | .bltzl .. | .bgezl .. | .tgei .. | .tgeiu .. | .tlti .. | .tltiu .. | .teqi ..
  | .tnei .. | .bltzal .. | .bgezal .. | .bltzall .. | .bgezall .. | .j .. | .jal .. | .beq ..
  | .bne .. | .blez .. | .bgtz .. | .addi .. | .addiu .. | .slti .. | .sltiu .. | .andi .. | .ori ..
  | .xori .. | .lui .. | .beql .. | .bnel .. | .blezl .. | .bgtzl .. | .daddi .. | .daddiu .. | .ldl ..
  | .ldr .. | .lb .. | .lh .. | .lwl .. | .lw .. | .lbu .. | .lhu .. | .lwr .. | .lwu .. | .sb ..
  | .sh .. | .swl .. | .sw .. | .sdl .. | .sdr .. | .swr .. | .cache .. | .ll .. | .lwc1 .. | .lld ..
  | .ld .. | .sc .. | .swc1 .. | .scd .. | .sdc1 .. | .sd .. | .mfc0 .. | .dmfc0 .. | .mtc0 ..
  | .dmtc0 .. | .eret | .tlbr | .tlbwi | .tlbwr | .tlbp | .mfc1 .. | .dmfc1 .. | .cfc1 .. | .mtc1 ..
  | .ctc1 .. | .bc1f .. | .bc1t .. | .bc1fl .. | .bc1tl .. | .addS .. | .subS .. | .mulS .. | .divS ..
  | .sqrtS .. | .absS .. | .movS .. | .negS .. | .cvtSD .. | .cvtSW .. | .cvtSL .. | .cvtWS ..
  | .cvtWD .. | .roundWS .. | .roundWD .. | .truncWS .. | .truncWD .. | .ceilWS .. | .ceilWD ..
  | .floorWS .. | .floorWD .. | .cFS .. | .cFD .. | .cUnS .. | .cUnD .. | .cEqS .. | .cEqD ..
  | .cUeqS .. | .cUeqD .. | .cOltS .. | .cOltD .. | .cUltS .. | .cUltD .. | .cOleS .. | .cOleD ..
  | .cUleS .. | .cUleD .. | .cSfS .. | .cSfD .. | .cNgleS .. | .cNgleD .. | .cSeqS .. | .cSeqD ..
  | .cNglS .. | .cNglD .. | .cLtS .. | .cLtD .. | .cNgeS .. | .cNgeD .. | .cLeS .. | .cLeD ..
  | .cNgtS .. | .cNgtD .. => none

/-- The instructions that can store to memory (43_load_store.md). -/
def isStore : Instr → Bool
  | .sb .. | .sh .. | .sw .. | .sd .. | .swl .. | .swr .. | .sdl .. | .sdr .. | .sc .. | .scd ..
  | .swc1 .. | .sdc1 .. => true
  | .sll .. | .srl .. | .sra .. | .sllv .. | .srlv .. | .srav .. | .jr .. | .jalr .. | .syscall ..
  | .brk .. | .sync .. | .mfhi .. | .mthi .. | .mflo .. | .mtlo .. | .dsllv .. | .dsrlv .. | .dsrav ..
  | .mult .. | .multu .. | .div .. | .divu .. | .dmult .. | .dmultu .. | .ddiv .. | .ddivu .. | .add ..
  | .addu .. | .sub .. | .subu .. | .and .. | .or .. | .xor .. | .nor .. | .slt .. | .sltu ..
  | .dadd .. | .daddu .. | .dsub .. | .dsubu .. | .tge .. | .tgeu .. | .tlt .. | .tltu .. | .teq ..
  | .tne .. | .dsll .. | .dsrl .. | .dsra .. | .dsll32 .. | .dsrl32 .. | .dsra32 .. | .nop | .bltz ..
  | .bgez .. | .bltzl .. | .bgezl .. | .tgei .. | .tgeiu .. | .tlti .. | .tltiu .. | .teqi ..
  | .tnei .. | .bltzal .. | .bgezal .. | .bltzall .. | .bgezall .. | .j .. | .jal .. | .beq ..
  | .bne .. | .blez .. | .bgtz .. | .addi .. | .addiu .. | .slti .. | .sltiu .. | .andi .. | .ori ..
  | .xori .. | .lui .. | .beql .. | .bnel .. | .blezl .. | .bgtzl .. | .daddi .. | .daddiu .. | .ldl ..
  | .ldr .. | .lb .. | .lh .. | .lwl .. | .lw .. | .lbu .. | .lhu .. | .lwr .. | .lwu .. | .cache ..
  | .ll .. | .lwc1 .. | .lld .. | .ldc1 .. | .ld .. | .mfc0 .. | .dmfc0 .. | .mtc0 .. | .dmtc0 ..
  | .eret | .tlbr | .tlbwi | .tlbwr | .tlbp | .mfc1 .. | .dmfc1 .. | .cfc1 .. | .mtc1 .. | .dmtc1 ..
  | .ctc1 .. | .bc1f .. | .bc1t .. | .bc1fl .. | .bc1tl .. | .addS .. | .addD .. | .subS .. | .subD ..
  | .mulS .. | .mulD .. | .divS .. | .divD .. | .sqrtS .. | .sqrtD .. | .absS .. | .absD .. | .movS ..
  | .movD .. | .negS .. | .negD .. | .cvtSD .. | .cvtSW .. | .cvtSL .. | .cvtDS .. | .cvtDW ..
  | .cvtDL .. | .cvtWS .. | .cvtWD .. | .cvtLS .. | .cvtLD .. | .roundWS .. | .roundWD .. | .truncWS ..
  | .truncWD .. | .ceilWS .. | .ceilWD .. | .floorWS .. | .floorWD .. | .roundLS .. | .roundLD ..
  | .truncLS .. | .truncLD .. | .ceilLS .. | .ceilLD .. | .floorLS .. | .floorLD .. | .cFS .. | .cFD ..
  | .cUnS .. | .cUnD .. | .cEqS .. | .cEqD .. | .cUeqS .. | .cUeqD .. | .cOltS .. | .cOltD ..
  | .cUltS .. | .cUltD .. | .cOleS .. | .cOleD .. | .cUleS .. | .cUleD .. | .cSfS .. | .cSfD ..
  | .cNgleS .. | .cNgleD .. | .cSeqS .. | .cSeqD .. | .cNglS .. | .cNglD .. | .cLtS .. | .cLtD ..
  | .cNgeS .. | .cNgeD .. | .cLeS .. | .cLeD .. | .cNgtS .. | .cNgtD .. => false

/-- 60_exceptions.md R703: the instructions that raise CpU when CU1 = 0. -/
def usesCop1 : Instr → Bool
  | .lwc1 .. | .ldc1 .. | .swc1 .. | .sdc1 .. | .mfc1 .. | .dmfc1 .. | .cfc1 .. | .mtc1 .. | .dmtc1 ..
  | .ctc1 .. | .bc1f .. | .bc1t .. | .bc1fl .. | .bc1tl .. | .addS .. | .addD .. | .subS .. | .subD ..
  | .mulS .. | .mulD .. | .divS .. | .divD .. | .sqrtS .. | .sqrtD .. | .absS .. | .absD .. | .movS ..
  | .movD .. | .negS .. | .negD .. | .cvtSD .. | .cvtSW .. | .cvtSL .. | .cvtDS .. | .cvtDW ..
  | .cvtDL .. | .cvtWS .. | .cvtWD .. | .cvtLS .. | .cvtLD .. | .roundWS .. | .roundWD .. | .truncWS ..
  | .truncWD .. | .ceilWS .. | .ceilWD .. | .floorWS .. | .floorWD .. | .roundLS .. | .roundLD ..
  | .truncLS .. | .truncLD .. | .ceilLS .. | .ceilLD .. | .floorLS .. | .floorLD .. | .cFS .. | .cFD ..
  | .cUnS .. | .cUnD .. | .cEqS .. | .cEqD .. | .cUeqS .. | .cUeqD .. | .cOltS .. | .cOltD ..
  | .cUltS .. | .cUltD .. | .cOleS .. | .cOleD .. | .cUleS .. | .cUleD .. | .cSfS .. | .cSfD ..
  | .cNgleS .. | .cNgleD .. | .cSeqS .. | .cSeqD .. | .cNglS .. | .cNglD .. | .cLtS .. | .cLtD ..
  | .cNgeS .. | .cNgeD .. | .cLeS .. | .cLeD .. | .cNgtS .. | .cNgtD .. => true
  | .sll .. | .srl .. | .sra .. | .sllv .. | .srlv .. | .srav .. | .jr .. | .jalr .. | .syscall ..
  | .brk .. | .sync .. | .mfhi .. | .mthi .. | .mflo .. | .mtlo .. | .dsllv .. | .dsrlv .. | .dsrav ..
  | .mult .. | .multu .. | .div .. | .divu .. | .dmult .. | .dmultu .. | .ddiv .. | .ddivu .. | .add ..
  | .addu .. | .sub .. | .subu .. | .and .. | .or .. | .xor .. | .nor .. | .slt .. | .sltu ..
  | .dadd .. | .daddu .. | .dsub .. | .dsubu .. | .tge .. | .tgeu .. | .tlt .. | .tltu .. | .teq ..
  | .tne .. | .dsll .. | .dsrl .. | .dsra .. | .dsll32 .. | .dsrl32 .. | .dsra32 .. | .nop | .bltz ..
  | .bgez .. | .bltzl .. | .bgezl .. | .tgei .. | .tgeiu .. | .tlti .. | .tltiu .. | .teqi ..
  | .tnei .. | .bltzal .. | .bgezal .. | .bltzall .. | .bgezall .. | .j .. | .jal .. | .beq ..
  | .bne .. | .blez .. | .bgtz .. | .addi .. | .addiu .. | .slti .. | .sltiu .. | .andi .. | .ori ..
  | .xori .. | .lui .. | .beql .. | .bnel .. | .blezl .. | .bgtzl .. | .daddi .. | .daddiu .. | .ldl ..
  | .ldr .. | .lb .. | .lh .. | .lwl .. | .lw .. | .lbu .. | .lhu .. | .lwr .. | .lwu .. | .sb ..
  | .sh .. | .swl .. | .sw .. | .sdl .. | .sdr .. | .swr .. | .cache .. | .ll .. | .lld .. | .ld ..
  | .sc .. | .scd .. | .sd .. | .mfc0 .. | .dmfc0 .. | .mtc0 .. | .dmtc0 .. | .eret | .tlbr | .tlbwi
  | .tlbwr | .tlbp => false

/-- 40_cycle.md R275: the control-transfer instructions. -/
def isControlTransfer : Instr → Bool
  | .jr .. | .jalr .. | .bltz .. | .bgez .. | .bltzl .. | .bgezl .. | .bltzal .. | .bgezal ..
  | .bltzall .. | .bgezall .. | .j .. | .jal .. | .beq .. | .bne .. | .blez .. | .bgtz .. | .beql ..
  | .bnel .. | .blezl .. | .bgtzl .. | .bc1f .. | .bc1t .. | .bc1fl .. | .bc1tl .. | .eret => true
  | .sll .. | .srl .. | .sra .. | .sllv .. | .srlv .. | .srav .. | .syscall .. | .brk .. | .sync ..
  | .mfhi .. | .mthi .. | .mflo .. | .mtlo .. | .dsllv .. | .dsrlv .. | .dsrav .. | .mult ..
  | .multu .. | .div .. | .divu .. | .dmult .. | .dmultu .. | .ddiv .. | .ddivu .. | .add .. | .addu ..
  | .sub .. | .subu .. | .and .. | .or .. | .xor .. | .nor .. | .slt .. | .sltu .. | .dadd ..
  | .daddu .. | .dsub .. | .dsubu .. | .tge .. | .tgeu .. | .tlt .. | .tltu .. | .teq .. | .tne ..
  | .dsll .. | .dsrl .. | .dsra .. | .dsll32 .. | .dsrl32 .. | .dsra32 .. | .nop | .tgei .. | .tgeiu ..
  | .tlti .. | .tltiu .. | .teqi .. | .tnei .. | .addi .. | .addiu .. | .slti .. | .sltiu .. | .andi ..
  | .ori .. | .xori .. | .lui .. | .daddi .. | .daddiu .. | .ldl .. | .ldr .. | .lb .. | .lh ..
  | .lwl .. | .lw .. | .lbu .. | .lhu .. | .lwr .. | .lwu .. | .sb .. | .sh .. | .swl .. | .sw ..
  | .sdl .. | .sdr .. | .swr .. | .cache .. | .ll .. | .lwc1 .. | .lld .. | .ldc1 .. | .ld .. | .sc ..
  | .swc1 .. | .scd .. | .sdc1 .. | .sd .. | .mfc0 .. | .dmfc0 .. | .mtc0 .. | .dmtc0 .. | .tlbr
  | .tlbwi | .tlbwr | .tlbp | .mfc1 .. | .dmfc1 .. | .cfc1 .. | .mtc1 .. | .dmtc1 .. | .ctc1 ..
  | .addS .. | .addD .. | .subS .. | .subD .. | .mulS .. | .mulD .. | .divS .. | .divD .. | .sqrtS ..
  | .sqrtD .. | .absS .. | .absD .. | .movS .. | .movD .. | .negS .. | .negD .. | .cvtSD .. | .cvtSW ..
  | .cvtSL .. | .cvtDS .. | .cvtDW .. | .cvtDL .. | .cvtWS .. | .cvtWD .. | .cvtLS .. | .cvtLD ..
  | .roundWS .. | .roundWD .. | .truncWS .. | .truncWD .. | .ceilWS .. | .ceilWD .. | .floorWS ..
  | .floorWD .. | .roundLS .. | .roundLD .. | .truncLS .. | .truncLD .. | .ceilLS .. | .ceilLD ..
  | .floorLS .. | .floorLD .. | .cFS .. | .cFD .. | .cUnS .. | .cUnD .. | .cEqS .. | .cEqD ..
  | .cUeqS .. | .cUeqD .. | .cOltS .. | .cOltD .. | .cUltS .. | .cUltD .. | .cOleS .. | .cOleD ..
  | .cUleS .. | .cUleD .. | .cSfS .. | .cSfD .. | .cNgleS .. | .cNgleD .. | .cSeqS .. | .cSeqD ..
  | .cNglS .. | .cNglD .. | .cLtS .. | .cLtD .. | .cNgeS .. | .cNgeD .. | .cLeS .. | .cLeD ..
  | .cNgtS .. | .cNgtD .. => false

/-- 60_exceptions.md R703: the raisers of Sys, Bp and Tr. -/
def isTrap : Instr → Bool
  | .syscall .. | .brk .. | .tge .. | .tgeu .. | .tlt .. | .tltu .. | .teq .. | .tne .. | .tgei ..
  | .tgeiu .. | .tlti .. | .tltiu .. | .teqi .. | .tnei .. => true
  | .sll .. | .srl .. | .sra .. | .sllv .. | .srlv .. | .srav .. | .jr .. | .jalr .. | .sync ..
  | .mfhi .. | .mthi .. | .mflo .. | .mtlo .. | .dsllv .. | .dsrlv .. | .dsrav .. | .mult ..
  | .multu .. | .div .. | .divu .. | .dmult .. | .dmultu .. | .ddiv .. | .ddivu .. | .add .. | .addu ..
  | .sub .. | .subu .. | .and .. | .or .. | .xor .. | .nor .. | .slt .. | .sltu .. | .dadd ..
  | .daddu .. | .dsub .. | .dsubu .. | .dsll .. | .dsrl .. | .dsra .. | .dsll32 .. | .dsrl32 ..
  | .dsra32 .. | .nop | .bltz .. | .bgez .. | .bltzl .. | .bgezl .. | .bltzal .. | .bgezal ..
  | .bltzall .. | .bgezall .. | .j .. | .jal .. | .beq .. | .bne .. | .blez .. | .bgtz .. | .addi ..
  | .addiu .. | .slti .. | .sltiu .. | .andi .. | .ori .. | .xori .. | .lui .. | .beql .. | .bnel ..
  | .blezl .. | .bgtzl .. | .daddi .. | .daddiu .. | .ldl .. | .ldr .. | .lb .. | .lh .. | .lwl ..
  | .lw .. | .lbu .. | .lhu .. | .lwr .. | .lwu .. | .sb .. | .sh .. | .swl .. | .sw .. | .sdl ..
  | .sdr .. | .swr .. | .cache .. | .ll .. | .lwc1 .. | .lld .. | .ldc1 .. | .ld .. | .sc .. | .swc1 ..
  | .scd .. | .sdc1 .. | .sd .. | .mfc0 .. | .dmfc0 .. | .mtc0 .. | .dmtc0 .. | .eret | .tlbr | .tlbwi
  | .tlbwr | .tlbp | .mfc1 .. | .dmfc1 .. | .cfc1 .. | .mtc1 .. | .dmtc1 .. | .ctc1 .. | .bc1f ..
  | .bc1t .. | .bc1fl .. | .bc1tl .. | .addS .. | .addD .. | .subS .. | .subD .. | .mulS .. | .mulD ..
  | .divS .. | .divD .. | .sqrtS .. | .sqrtD .. | .absS .. | .absD .. | .movS .. | .movD .. | .negS ..
  | .negD .. | .cvtSD .. | .cvtSW .. | .cvtSL .. | .cvtDS .. | .cvtDW .. | .cvtDL .. | .cvtWS ..
  | .cvtWD .. | .cvtLS .. | .cvtLD .. | .roundWS .. | .roundWD .. | .truncWS .. | .truncWD ..
  | .ceilWS .. | .ceilWD .. | .floorWS .. | .floorWD .. | .roundLS .. | .roundLD .. | .truncLS ..
  | .truncLD .. | .ceilLS .. | .ceilLD .. | .floorLS .. | .floorLD .. | .cFS .. | .cFD .. | .cUnS ..
  | .cUnD .. | .cEqS .. | .cEqD .. | .cUeqS .. | .cUeqD .. | .cOltS .. | .cOltD .. | .cUltS ..
  | .cUltD .. | .cOleS .. | .cOleD .. | .cUleS .. | .cUleD .. | .cSfS .. | .cSfD .. | .cNgleS ..
  | .cNgleD .. | .cSeqS .. | .cSeqD .. | .cNglS .. | .cNglD .. | .cLtS .. | .cLtD .. | .cNgeS ..
  | .cNgeD .. | .cLeS .. | .cLeD .. | .cNgtS .. | .cNgtD .. => false


/-! ## Exceptions and memory, as the rules say them -/

/-- 60_exceptions.md R710: `t` is `s` after exception entry with this code, coprocessor number and return address. -/
structure EnteredException (code : BitVec 5) (ce : BitVec 2) (ret : Word) (inDelay : Bool) (s t : State) : Prop where
  bd        : t.cause.getLsbD 31 = inDelay
  epc       : t.cop0 14#5 = ((if inDelay then ret - 4#64 else ret).setWidth 32 : Word32)
  excCode   : t.cause.extractLsb' 2 5 = code
  ceField   : t.cause.extractLsb' 28 2 = ce
  causeRest : t.cause &&& 0x4FFFFF83#32 = s.cause &&& 0x4FFFFF83#32
  exl       : t.status = s.status ||| 2#32
  vector    : t.pc = if s.status.getLsbD 22 then 0xFFFFFFFFBFC00380#64 else 0xFFFFFFFF80000180#64
  branch    : t.pending = none
  frame     : Frame { cop0 := [12#5, 13#5, 14#5], control := true } s t

/-- The `n` bytes at the virtual address `va` lie in a memory row, from the physical address `pa` on, and the access is
aligned or the parameter lets it be made byte by byte (20_memory.md R150, R161, R172). -/
def MemoryAccess (s : State) (n : Nat) (va : Word) (pa : Nat) : Prop :=
  (va.toNat % n = 0 ∨ s.params.misaligned = .bytewise) ∧ translateAddr va = .ok pa ∧
    ∃ row, route s.params.physMap pa = some row ∧ row.kind = .memory ∧ pa + n ≤ row.last + 1

/-- The instruction completes and stores the `n` bytes of `v`, the most significant first, from `pa` on, and touches
nothing else (20_memory.md R171). -/
def StoresBytes (o : Result) (s : State) (pa n : Nat) (v : Word) : Prop :=
  Completes o { bytes := (pa, n) } s fun t => ∀ k, k < n → t.mem.byte (pa + k) = v.extractLsb' (8 * (n - 1 - k)) 8

/-- 20_memory.md R172: `n` loads of one byte at `va`, `va + 1` and so on, in increasing order, and the bytes as one
big-endian value; the first halt ends them. -/
def loadBytes (va : Word) : Nat → State → Except Fault (Word × State)
  | 0, s => .ok (0#64, s)
  | n + 1, s =>
    match loadBytes va n s with
    | .error f => .error f
    | .ok (v, t) =>
      match load 1 (va + BitVec.ofNat 64 n) t with
      | .error f => .error f
      | .ok (b, u) => .ok ((v <<< 8) ||| b, u)

/-- R172: the first `k` of `n` stores of one byte each, the bytes of `v` with the most significant first, at `va`,
`va + 1` and so on, in increasing order; the first halt ends them. -/
def storeBytes (va : Word) (n : Nat) (v : Word) : Nat → State → Except Fault State
  | 0, s => .ok s
  | k + 1, s =>
    match storeBytes va n v k s with
    | .error f => .error f
    | .ok t => store 1 (va + BitVec.ofNat 64 k) ((v.extractLsb' (8 * (n - 1 - k)) 8).setWidth 64) t

/-! ## Numbers (46_fpu_convert_compare.md R620) -/

/-- The number ± m · 2^e. -/
def finValue (neg : Bool) (m : Nat) (e : Int) : Rat := (if neg then -1 else 1) * (m : Rat) * (2 : Rat) ^ e

/-- The number that the `k`-th finite magnitude of the format encodes; for `k` = `infEnc` the number one step past the
largest finite one. -/
def magValue (f : Format) (k : Nat) : Rat :=
  if k / 2 ^ f.fracBits = 0 then finValue false k (minExp f)
  else finValue false (2 ^ f.fracBits + k % 2 ^ f.fracBits) (minExp f + (k / 2 ^ f.fracBits - 1 : Nat))

/-- R620, R623: `r` is the integer that the mode gives for the number `x`: the nearest one, of two the even one; the one
toward zero; the least one not below; the greatest one not above. -/
def RoundsToInt (mode : RoundMode) (x : Rat) (r : Int) : Prop :=
  match mode with
  | .nearest => 2 * x ≤ 2 * r + 1 ∧ 2 * r - 1 ≤ 2 * x ∧ (2 * x = 2 * r + 1 ∨ 2 * x = 2 * r - 1 → r % 2 = 0)
  | .zero => (0 ≤ x → r ≤ x ∧ x < r + 1) ∧ (x ≤ 0 → x ≤ r ∧ r - 1 < x)
  | .up => x ≤ r ∧ r - 1 < x
  | .down => r ≤ x ∧ x < r + 1

/-- The number half way between two neighbouring magnitudes. -/
def midpoint (f : Format) (k : Nat) : Rat := (magValue f k + magValue f (k + 1)) / 2

/-- R620: `k` is the magnitude encoding (`infEnc` for infinity) that the mode gives for a real magnitude x of the given
sign, where `le q` says q ≤ x and `lt q` says q < x. -/
def Rounds (f : Format) (mode : RoundMode) (neg : Bool) (le lt : Rat → Prop) (k : Nat) : Prop :=
  match mode with
  | .nearest =>
    k ≤ infEnc f ∧
      (0 < k → if k % 2 = 0 then le (midpoint f (k - 1)) else lt (midpoint f (k - 1))) ∧
      (k < infEnc f → if k % 2 = 0 then ¬ lt (midpoint f k) else ¬ le (midpoint f k))
  | .zero => k < infEnc f ∧ le (magValue f k) ∧ (k + 1 < infEnc f → ¬ le (magValue f (k + 1)))
  | .up =>
    if neg then k < infEnc f ∧ le (magValue f k) ∧ (k + 1 < infEnc f → ¬ le (magValue f (k + 1)))
    else k ≤ infEnc f ∧ (0 < k → lt (magValue f (k - 1))) ∧ (k < infEnc f → ¬ lt (magValue f k))
  | .down =>
    if neg then k ≤ infEnc f ∧ (0 < k → lt (magValue f (k - 1))) ∧ (k < infEnc f → ¬ lt (magValue f k))
    else k < infEnc f ∧ le (magValue f k) ∧ (k + 1 < infEnc f → ¬ le (magValue f (k + 1)))

end Sys2Proof.Machine
end

