-- ==== Sys2Proof/Certificates/Slice0/Obligations.lean ====
section
/-! DEFINITION. The statements about the machine, for the provers. `exec` sees the state after the fetch, so in a
statement about an instruction `s.pc` is its address plus 4. -/

open Sys2Proof Sys2Proof.Machine

/-- Fourteen words that the spec writes out, at least one of each family of the opcode table, decode to the
instructions that the spec gives beside them. (30_encoding.md, 95_test_vectors.md, 42_branch_jump.md,
43_load_store.md, 44_cop0_system.md, 45_fpu_move_arith.md, 46_fpu_convert_compare.md) -/
def Obligations.SpecWordsDecode : Prop :=
  decode 0x00221821#32 = .ok (.addu 1#5 2#5 3#5) ∧
  decode 0x24010001#32 = .ok (.addiu 0#5 1#5 1#16) ∧
  decode 0x10220003#32 = .ok (.beq 1#5 2#5 3#16) ∧
  decode 0x0080F809#32 = .ok (.jalr 4#5 31#5) ∧
  decode 0x04B30002#32 = .ok (.bgezall 5#5 2#16) ∧
  decode 0x0C000040#32 = .ok (.jal 0x40#26) ∧
  decode 0xB4220005#32 = .ok (.sdr 1#5 2#5 5#16) ∧
  decode 0xE4230000#32 = .ok (.swc1 1#5 3#5 0#16) ∧
  decode 0x40084800#32 = .ok (.mfc0 8#5 9#5) ∧
  decode 0x42000018#32 = .ok .eret ∧
  decode 0x44C2F800#32 = .ok (.ctc1 2#5 31#5) ∧
  decode 0x46001100#32 = .ok (.addS 0#5 2#5 4#5) ∧
  decode 0x46A01121#32 = .ok (.cvtDL 2#5 4#5) ∧
  decode 0x4624103E#32 = .ok (.cLeD 4#5 2#5)

/-- For every well-formed instruction and every list of bytes after it, decoding the four bytes of its encoding gives
that instruction, every operand at the value it had, and the bytes that follow. (30_encoding.md) -/
def Obligations.DecodeOfEncode : Prop :=
  ∀ (i : Instr) (rest : List Byte), i.wellFormed = true →
    decodeBytes (bytesOfWord (encode i) ++ rest) = .ok (i, rest)

/-- Whatever word decodes, the word under the mask of the decoded instruction's row of opcode_table.json equals the
row's match bits. (30_encoding.md) -/
def Obligations.DecodedWordHasItsKeyBits : Prop :=
  ∀ (w : Word32) (i : Instr), decode w = .ok i → w &&& i.mask32 = i.match32

/-- A word other than 0 that has the key bits of a row of the opcode table decodes to an instruction of that row; the
word 0 decodes to NOP; ERET is only the exact word, and any other word of its selector and function is an empty entry
of the TLB table. (R204) -/
def Obligations.KeyBitsDecideTheInstruction : Prop :=
  (∀ (w : Word32) (i : Instr), w ≠ 0#32 → w &&& i.mask32 = i.match32 →
    ∃ j, decode w = .ok j ∧ j.mnemonic = i.mnemonic) ∧
  decode 0#32 = .ok .nop ∧ decode 0x42000018#32 = .ok .eret ∧
  ∀ w : Word32, w ≠ 0x42000018#32 → w.extractLsb' 21 11 = 0x210#11 → w.extractLsb' 0 6 = 0x18#6 →
    decode w = .error (.tlb 0x18#6)

/-- When the word fetched selects an empty entry, or a row that is not implemented, the step faults with Unimplemented
and that word. Which rows are implemented is checked by exclusion list and parameters; NOP always is. (30_encoding.md,
40_cycle.md, 44_cop0_system.md) -/
def Obligations.UndecodableWordHalts : Prop :=
  (∀ (s t : State) (w : Word32), s.halted = none → fetch (prefetch s) = .ok (w, t) →
    (∀ m, decode w = .error m → step s = .fault (.unimplemented w)) ∧
    (∀ i, decode w = .ok i → implemented t.params i = false → step s = .fault (.unimplemented w))) ∧
  (∀ p, implemented p .nop = true) ∧
  (∀ p i, i ≠ .nop → i.mnemonic ∈ p.excluded → implemented p i = false) ∧
  (∀ p i, isTrap i = true → p.trapInsns = .halt → implemented p i = false) ∧
  (∀ p, p.tlbOps = .halt → ∀ i ∈ [Instr.tlbr, .tlbwi, .tlbwr, .tlbp], implemented p i = false) ∧
  (∀ p i, p.excluded = [] → p.trapInsns = .raise → p.tlbOps = .nop → implemented p i = true)

/-- When, after the environment, the interrupt check and the tick, pc is word-aligned and its four bytes in a memory
row decode to an implemented instruction, the step is that instruction executed with pc advanced by 4, followed by the
resolution of the delayed branch: a recorded branch counts down from 2 to 1, or fires when it stood at 1.
(40_cycle.md, 30_encoding.md, 20_memory.md) -/
def Obligations.StepRunsTheDecodedInstruction : Prop :=
  ∀ (s : State) (pa : Nat) (i : Instr), s.halted = none →
    (prefetch s).pc.toNat % 4 = 0 → MemoryAccess (prefetch s) 4 (prefetch s).pc pa →
    decodeBytes [(prefetch s).mem.byte pa, (prefetch s).mem.byte (pa + 1), (prefetch s).mem.byte (pa + 2),
      (prefetch s).mem.byte (pa + 3)] = .ok (i, []) →
    implemented s.params i = true →
    (∀ t, exec i { prefetch s with pc := (prefetch s).pc + 4#64 } = .next t →
      (t.pending = none → step s = .next t) ∧
      (∀ a, t.pending = some ⟨a, .two⟩ → step s = .next { t with pending := some ⟨a, .one⟩ }) ∧
      (∀ a, t.pending = some ⟨a, .one⟩ → step s = .next { t with pc := a, pending := none })) ∧
    (∀ f, exec i { prefetch s with pc := (prefetch s).pc + 4#64 } = .fault f → step s = .fault f) ∧
    (∀ r, exec i { prefetch s with pc := (prefetch s).pc + 4#64 } = .refused r → step s = .refused r)

/-- In a state whose halted is a reason, the step is that fault, and Tick(n) returns the state for every n; Tick(m +
n) is Tick(n) after Tick(m), the early stop at a halt included. (40_cycle.md, 10_state.md) -/
def Obligations.HaltedIsAbsorbing : Prop :=
  (∀ (s : State) (f : Fault), s.halted = some f → step s = .fault f ∧ ∀ n, tick n s = s) ∧
  ∀ (m n : Nat) (s : State), tick (m + n) s = tick n (tick m s)

/-- If a step answers a next state, ticks has advanced by exactly 1, or the instruction that the step fetched was an
MTC0 or DMTC0 to Count. (60_exceptions.md, 44_cop0_system.md) -/
def Obligations.TicksAdvanceByOne : Prop :=
  ∀ s t : State, step s = .next t → t.ticks = s.ticks + 1#64 ∨
    ∃ w u rt, fetch (prefetch s) = .ok (w, u) ∧ (decode w = .ok (.mtc0 rt 9#5) ∨ decode w = .ok (.dmtc0 rt 9#5))

/-- Exception entry with any code, coprocessor number, return address and delay-slot flag, from every state (EXL set
or not): BD is the flag, EPC the low 32 bits of the return address, less 4 in a delay slot, ExcCode and CE as given,
EXL set, pc the vector that BEV selects, pending none; every other bit and all other state unchanged. (R710) -/
def Obligations.ExceptionEntryWrites : Prop :=
  ∀ (code : BitVec 5) (ce : BitVec 2) (ret : Word) (inDelay : Bool) (s : State),
    EnteredException code ce ret inDelay s (exceptionEntry code ce ret inDelay s)

/-- With IE = 1, EXL = 0, ERL = 0 and a bit of Cause and Status common in bits 15:8, the check enters the exception
with code 0, CE 0, the return address pc, in a delay slot exactly when a branch is pending; otherwise it changes
nothing. (R720) -/
def Obligations.InterruptCheck : Prop :=
  ∀ s : State,
    ((s.status.getLsbD 0 = true ∧ s.status.getLsbD 1 = false ∧ s.status.getLsbD 2 = false ∧
        (s.cause &&& s.status) &&& 0xFF00#32 ≠ 0#32) →
      EnteredException 0#5 0#2 s.pc s.pending.isSome s (checkInterrupts s)) ∧
    (¬ (s.status.getLsbD 0 = true ∧ s.status.getLsbD 1 = false ∧ s.status.getLsbD 2 = false ∧
        (s.cause &&& s.status) &&& 0xFF00#32 ≠ 0#32) →
      checkInterrupts s = s)

/-- The tick adds 1 to ticks modulo 2^64, and sets Cause bit 15 exactly when the low 32 bits of the new ticks shifted
right by COUNT_SHIFT equal Compare; no other bit of Cause and nothing else changes; it is the second phase of every
step. (R730) -/
def Obligations.TimerTick : Prop :=
  ∀ s : State,
    (timerTick s).ticks = s.ticks + 1#64 ∧
    (timerTick s).cause =
      (if ((s.ticks + 1#64) >>> s.params.countShift).setWidth 32 = s.cop0 11#5 then s.cause ||| 0x8000#32
        else s.cause) ∧
    (∀ u : State, u = { timerTick s with ticks := s.ticks } → Frame { cop0 := [13#5] } s u) ∧
    prefetch s = timerTick (checkInterrupts (applyEnv s))

/-- In every state SYSCALL and BREAK complete by exception entry with code 8 (Sys) and 9 (Bp), CE 0, the return
address the instruction's own, whatever their code field. Each trap instruction compares 64-bit values (signed,
unsigned, equality; the immediate sign-extended, for the unsigned forms too): if its condition holds it enters the
exception with code 13 and CE 0, otherwise it completes and leaves the state as it is. (Under TRAP_INSNS = halt the
step halts before them: UndecodableWordHalts.) (44_cop0_system.md, 60_exceptions.md) -/
def Obligations.SystemCallsAndTraps : Prop :=
  ∀ (s : State) (rs rt : Reg) (code : BitVec 10) (imm : Half) (c : BitVec 20),
    let x := s.gpr rs
    let y := s.gpr rt
    let z : Word := imm.signExtend 64
    let enters (i : Instr) (code : BitVec 5) : Prop :=
      ∃ t, exec i s = .next t ∧ EnteredException code 0#2 (s.pc - 4#64) s.pending.isSome s t
    enters (.syscall c) 8#5 ∧ enters (.brk c) 9#5 ∧
    ∀ p ∈ [(Instr.tge rs rt code, decide (y.toInt ≤ x.toInt)), (.tgeu rs rt code, decide (y.toNat ≤ x.toNat)),
        (.tlt rs rt code, decide (x.toInt < y.toInt)), (.tltu rs rt code, decide (x.toNat < y.toNat)),
        (.teq rs rt code, decide (x = y)), (.tne rs rt code, decide (x ≠ y)),
        (.tgei rs imm, decide (z.toInt ≤ x.toInt)), (.tgeiu rs imm, decide (z.toNat ≤ x.toNat)),
        (.tlti rs imm, decide (x.toInt < z.toInt)), (.tltiu rs imm, decide (x.toNat < z.toNat)),
        (.teqi rs imm, decide (x = z)), (.tnei rs imm, decide (x ≠ z))],
      (p.2 = true → enters p.1 13#5) ∧ (p.2 = false → exec p.1 s = .next s)

/-- With Status bit 29 clear, every instruction that uses COP1 (the 80 of the two FPU files, the COP1 loads and
stores, the BC1 branches outside a delay slot) enters the exception with code 11 and CE 1 and has no effect of its
own. (R550) -/
def Obligations.UnusableCop1Raises : Prop :=
  ∀ (i : Instr) (s : State), usesCop1 i = true → s.status.getLsbD 29 = false →
    (isControlTransfer i = true → s.pending = none) →
    ∃ t, exec i s = .next t ∧ EnteredException 11#5 1#2 (s.pc - 4#64) s.pending.isSome s t

/-- Outside a delay slot ERET completes: with ERL = 1 pc becomes ErrorEPC sign-extended and ERL is cleared, otherwise
pc becomes EPC sign-extended and EXL is cleared; llbit is false; pending stays none; nothing else changes.
(44_cop0_system.md, 60_exceptions.md) -/
def Obligations.EretReturns : Prop :=
  ∀ s : State, NotInDelaySlot s →
    Completes (exec .eret s) { cop0 := [12#5], llbit := true, control := true } s fun t =>
      t.llbit = false ∧ t.pending = none ∧
      (s.status.getLsbD 2 = true →
        t.pc = (s.cop0 30#5).signExtend 64 ∧ t.status = s.status &&& 0xFFFFFFFB#32) ∧
      (s.status.getLsbD 2 = false →
        t.pc = (s.cop0 14#5).signExtend 64 ∧ t.status = s.status &&& 0xFFFFFFFD#32)

/-- From a state with ERL = 0, after exception entry for the instruction at a sign-extended 32-bit address, ERET
resumes at that address, or 4 below it when the instruction was in a delay slot, with EXL clear. (60_exceptions.md,
44_cop0_system.md) -/
def Obligations.ExceptionReturnsToItsInstruction : Prop :=
  ∀ (s : State) (code : BitVec 5) (ce : BitVec 2) (a : Word32), s.status.getLsbD 2 = false →
    (∃ t, exec .eret (exceptionEntry code ce (a.signExtend 64) false s) = .next t ∧
      t.pc = a.signExtend 64 ∧ t.status.getLsbD 1 = false ∧ t.pending = none) ∧
    (∃ t, exec .eret (exceptionEntry code ce (a.signExtend 64) true s) = .next t ∧
      t.pc = (a - 4#32).signExtend 64 ∧ t.status.getLsbD 1 = false ∧ t.pending = none)

/-- Every jump, branch (BC1 and the likely forms included, CU1 set or not) and ERET executed while a branch is pending
halts with DelaySlotCTI and its own address. (R275) -/
def Obligations.ControlTransferInDelaySlotHalts : Prop :=
  ∀ (i : Instr) (s : State), isControlTransfer i = true → s.pending ≠ none →
    exec i s = .fault (.delaySlotCTI (s.pc - 4#64))

/-- An action of the environment changes the pending bits, the mask bits and the device registers that it names, and
nothing else of the machine but Cause bit 10; the actions stand in a queue, of which one step takes the first and
leaves the rest, and with none queued nothing changes (that there is such a queue, and one action a step, is the
model's choice, log 16). After an action that sets pending or mask bits, and, where the controller follows the
register map of R741 (bit 2k clears and bit 2k + 1 sets mask bit k: the model's parameter, log 14), after a store of a
32-bit value to MI_MASK that sets or clears single bits, Cause bit 10 is 1 exactly when a pending bit is unmasked. No
other bit of Cause changes. Stores to the other device registers are in BusWrites. (60_exceptions.md, 40_cycle.md) -/
def Obligations.AggregateFollowsThePendingAndMaskBits : Prop :=
  (∀ s : State, s.env = [] → applyEnv s = s) ∧
  (∀ (s t : State) (a : EnvAction) (rest : List EnvAction), s.env = a :: rest → t = applyEnv s →
    t.miIntr = a.intr.getD s.miIntr ∧ t.miMask = a.mask.getD s.miMask ∧ t.blocks = s.blocks.setRegs a.regs ∧
    t.env = rest ∧ (a.intr ≠ none ∨ a.mask ≠ none → t.cause.getLsbD 10 = decide (t.miIntr &&& t.miMask ≠ 0#6)) ∧
    t.cause &&& 0xFFFFFBFF#32 = s.cause &&& 0xFFFFFBFF#32 ∧
    Frame { cop0 := [13#5] } s { t with env := s.env, blocks := s.blocks, miIntr := s.miIntr, miMask := s.miMask }) ∧
  ∀ (s : State) (base rt : Reg) (offset : Half) (row : Region),
    let va := s.gpr base + offset.signExtend 64
    va.toNat % 4 = 0 → translateAddr va = .ok (row.base + 12) → route s.params.physMap (row.base + 12) = some row →
    row.kind = .device .mi 16 → s.params.miMap = .registers →
    (∀ k : Fin 6, (s.gpr rt).getLsbD (2 * k) = false ∨ (s.gpr rt).getLsbD (2 * k + 1) = false) →
    ∃ t, exec (.sw base rt offset) s = .next t ∧ t.miIntr = s.miIntr ∧
      (∀ k : Fin 6, t.miMask.getLsbD k =
        (((s.gpr rt).getLsbD (2 * k + 1)) || (s.miMask.getLsbD k && !(s.gpr rt).getLsbD (2 * k)))) ∧
      t.cause.getLsbD 10 = decide (t.miIntr &&& t.miMask ≠ 0#6) ∧
      t.cause &&& 0xFFFFFBFF#32 = s.cause &&& 0xFFFFFBFF#32 ∧
      Frame { cop0 := [13#5], draws := true } s { t with miMask := s.miMask, blocks := s.blocks }

/-- From every state that meets the invariant (memory and the devices' blocks canonical, the delayed branch absent or
due, Cause bit 10 in line with the interrupt controller, the zero bits of Cause, HI and LO within HILO_W bits,
BadVAddr and the unused COP0 cells 0), a step that answers a next state gives a state that meets it. (10_state.md,
40_cycle.md, 60_exceptions.md, 20_memory.md) -/
def Obligations.StepKeepsTheInvariant : Prop :=
  ∀ s t : State, s.Inv → step s = .next t → t.Inv

/-- State.reset meets the invariant; so does the state constructed from any boot record, whatever its image and
parameters, with BadVAddr 0. (70_reset_and_hazards.md) -/
def Obligations.ResetMeetsTheInvariant : Prop :=
  State.reset.Inv ∧ ∀ b : Boot, (State.ofBoot b).Inv

/-- After construction: x[0] reads 0 and every other general register its boot value; HI, LO, ticks, every COP1 slot,
FCSR and every COP0 register but Status, PRId and Config are 0; those three and pc are the boot record's; pending
none, halted none, llbit false; memory holds the bytes of the boot image, the last entry for an address counting, and
0 elsewhere; the devices' blocks hold the bytes of the boot record's register list, the last entry for a device and
offset counting, and 0 elsewhere, and no interrupt is pending or unmasked (the model's choice, log 28). Clauses about
State.reset itself: Count, FCR0 and PRId read the defaults; it takes the suggested pc, Status and Config (the model's
choice, logs 3, 4 and 7). State.resetWithDefaults has every parameter at the default of R11, and State.reset differs
from it in three (the model's choice, log 2). (70_reset_and_hazards.md, 00_scope.md) -/
def Obligations.ResetValues : Prop :=
  (∀ b : Boot,
    (∀ r : Reg, (State.ofBoot b).gpr r = if r = 0#5 then 0#64 else b.gpr[r.toNat]'(by have := r.isLt; omega)) ∧
    (State.ofBoot b).hi = 0#64 ∧ (State.ofBoot b).lo = 0#64 ∧ (State.ofBoot b).pc = b.pc ∧
    (State.ofBoot b).pending = none ∧ (State.ofBoot b).halted = none ∧ (State.ofBoot b).llbit = false ∧
    (State.ofBoot b).ticks = 0#64 ∧ (State.ofBoot b).fcr31 = 0#32 ∧
    (∀ n : Reg, (State.ofBoot b).slot n = 0#64) ∧
    (∀ r : Reg, (State.ofBoot b).cop0 r =
      if r = 12#5 then b.status else if r = 15#5 then b.prid else if r = 16#5 then b.config else 0#32) ∧
    (∀ a, (∀ c ∈ b.image, c.1 ≠ a) → (State.ofBoot b).mem.byte a = 0#8) ∧
    (∀ before c after, b.image = before ++ c :: after → (∀ d ∈ after, d.1 ≠ c.1) →
      (State.ofBoot b).mem.byte c.1 = c.2) ∧
    (State.ofBoot b).rom = b.rom ∧ (State.ofBoot b).miIntr = 0#6 ∧ (State.ofBoot b).miMask = 0#6 ∧
    (∀ id o, (∀ r ∈ b.regs, ¬ (r.id = id ∧ r.off = o)) → ((State.ofBoot b).blocks.get id).byte o = 0#8) ∧
    (∀ before r after, b.regs = before ++ r :: after → (∀ q ∈ after, ¬ (q.id = r.id ∧ q.off = r.off)) →
      ((State.ofBoot b).blocks.get r.id).byte r.off = r.val)) ∧
  State.reset.count = 0#32 ∧ State.reset.params.fcr0 = 0x00000A00#32 ∧ State.reset.cop0 15#5 = 0x00000B22#32 ∧
  State.reset.pc = 0xFFFFFFFFA4000040#64 ∧ State.reset.status = 0x34000000#32 ∧
  State.reset.cop0 16#5 = 0x7006E463#32 ∧
  State.resetWithDefaults.params =
    { excluded := [], hiloWidth := .w32, misaligned := .halt, tlbOps := .nop, trapInsns := .halt
      divOverflow := .halt, countShift := 1, fcr0 := 0x00000A00#32, physMap := defaultPhysMap 0x00800000
      miMap := .oracle } ∧
  State.reset = { State.resetWithDefaults with params :=
    { State.resetWithDefaults.params with misaligned := .bytewise, trapInsns := .raise, divOverflow := .mips } }

/-- x[0] reads 0 in every state, a write of x[0] gives the same state, and a read after a write of another register
gives the value written there and the old value elsewhere. (R41) -/
def Obligations.ZeroRegister : Prop :=
  ∀ (s : State) (r q : Reg) (v : Word),
    s.gpr 0#5 = 0#64 ∧ s.setGpr 0#5 v = s ∧
    (r ≠ 0#5 → (s.setGpr r v).gpr r = v) ∧ (q ≠ r → (s.setGpr r v).gpr q = s.gpr q)

/-- If an instruction answers a next state (its effect, or exception entry), every general register other than the
destination that R44 gives the instruction (rd, rt, register 31 for the link forms, none) is unchanged. (10_state.md)
-/
def Obligations.OneGeneralRegisterIsWritten : Prop :=
  ∀ (i : Instr) (s t : State), exec i s = .next t → ∀ q, gprDest i ≠ some q → t.gpr q = s.gpr q

/-- If an instruction answers a next state: HI is unchanged unless it is a multiply, a divide or MTHI, LO unless it is
a multiply, a divide or MTLO; FCSR is unchanged unless it is a CTC1 to register 31 or a compare, and a compare leaves
every bit but bit 23; llbit is true after LL and LLD, false after SC, SCD and ERET, and unchanged after every other
instruction, stores and exception entry included. (10_state.md, 41_integer.md, 43_load_store.md, 44_cop0_system.md,
45_fpu_move_arith.md, 46_fpu_convert_compare.md) -/
def Obligations.HiLoFcsrAndLlbitWriters : Prop :=
  ∀ (i : Instr) (s t : State), exec i s = .next t →
    (writesHi i = false → t.hi = s.hi) ∧ (writesLo i = false → t.lo = s.lo) ∧
    ((∀ rt, i ≠ .ctc1 rt 31#5) → (isCompare i = false → t.fcr31 = s.fcr31) ∧
      t.fcr31 &&& 0xFF7FFFFF#32 = s.fcr31 &&& 0xFF7FFFFF#32) ∧
    ((∃ base rt offset, i = .ll base rt offset ∨ i = .lld base rt offset) → t.llbit = true) ∧
    ((∃ base rt offset, i = .eret ∨ i = .sc base rt offset ∨ i = .scd base rt offset) → t.llbit = false) ∧
    ((∀ base rt offset, i ≠ .ll base rt offset ∧ i ≠ .lld base rt offset ∧ i ≠ .eret ∧
      i ≠ .sc base rt offset ∧ i ≠ .scd base rt offset) → t.llbit = s.llbit)

/-- If an instruction answers a next state, every slot other than its COP1 destination (and the next slot, for a
64-bit destination with FR = 0) is unchanged; the upper half of the slot of a 32-bit destination is unchanged, and
with FR = 0 every upper half is. (10_state.md, 45_fpu_move_arith.md) -/
def Obligations.FprWriters : Prop :=
  ∀ (i : Instr) (s t : State), exec i s = .next t →
    (∀ q, fprDest32 i ≠ some q → fprDest64 i ≠ some q →
      (s.status.getLsbD 26 = true ∨ ∀ n, fprDest64 i = some n → q ≠ n + 1#5) → t.slot q = s.slot q) ∧
    (∀ q, fprDest64 i = none ∨ s.status.getLsbD 26 = false →
      (t.slot q).extractLsb' 32 32 = (s.slot q).extractLsb' 32 32)

/-- If an instruction answers a next state: PRId and BadVAddr are unchanged. Unless it is an MTC0, DMTC0, ERET, LL,
LLD, a raiser of Sys, Bp or Tr, a store, or a COP1 instruction with CU1 = 0, every COP0 register is unchanged, ticks
too. A store, if it is no COP1 instruction with CU1 = 0, changes at most Cause bit 10 of the COP0 registers.
(10_state.md, 44_cop0_system.md, 60_exceptions.md) -/
def Obligations.Cop0Writers : Prop :=
  ∀ (i : Instr) (s t : State), exec i s = .next t →
    (t.cop0 15#5 = s.cop0 15#5 ∧ t.cop0 8#5 = s.cop0 8#5) ∧
    ((∀ rt rd, i ≠ .mtc0 rt rd ∧ i ≠ .dmtc0 rt rd) → t.ticks = s.ticks) ∧
    ((∀ a b c, i ≠ .mtc0 a b ∧ i ≠ .dmtc0 a b ∧ i ≠ .eret ∧ i ≠ .ll a b c ∧ i ≠ .lld a b c) →
      isTrap i = false → (usesCop1 i = true → s.status.getLsbD 29 = true) →
      (∀ r, r ≠ 13#5 → t.cop0 r = s.cop0 r) ∧
      t.cause &&& 0xFFFFFBFF#32 = s.cause &&& 0xFFFFFBFF#32 ∧
      (isStore i = false → t.cause = s.cause))

/-- If an instruction answers a next state: memory, the devices' register blocks, the pending bits and the mask bits
are unchanged unless it is a store; the ROM image, the parameters, halted and the environment queue are unchanged
whatever it is. No instruction is refused. (20_memory.md, 43_load_store.md, 60_exceptions.md) -/
def Obligations.MemoryWriters : Prop :=
  (∀ (i : Instr) (s t : State), exec i s = .next t →
    (isStore i = false → t.mem = s.mem ∧ t.blocks = s.blocks ∧ t.miIntr = s.miIntr ∧ t.miMask = s.miMask) ∧
    t.rom = s.rom ∧ t.params = s.params ∧ t.halted = s.halted ∧ t.env = s.env) ∧
  ∀ (i : Instr) (s : State) (r : Refusal), exec i s ≠ .refused r

/-- If an instruction that is no control transfer answers a next state and raises nothing (no raiser of Sys, Bp, Tr;
CU1 set if it uses COP1), pc (already the address of the next instruction) and pending are unchanged. (40_cycle.md,
10_state.md) -/
def Obligations.PcAndPendingWriters : Prop :=
  ∀ (i : Instr) (s t : State), exec i s = .next t → isControlTransfer i = false → isTrap i = false →
    (usesCop1 i = true → s.status.getLsbD 29 = true) → t.pc = s.pc ∧ t.pending = s.pending

/-- The twelve add and subtract instructions complete in every state, without an overflow trap, and write only their
destination: the 32-bit forms the sum or difference of the low halves modulo 2^32, sign-extended; the 64-bit forms
that of the whole registers modulo 2^64; immediates sign-extended. (R301, R302, R303, R304, R305, R306, R307, R308,
R309, R310, R311, R312) -/
def Obligations.AddAndSubtract : Prop :=
  ∀ (s : State) (rs rt rd : Reg) (imm : Half),
    let x := s.gpr rs
    let y := s.gpr rt
    let w (v : Int) : Word := (BitVec.ofInt 32 v).signExtend 64
    let lx := (x.toNat % 2 ^ 32 : Int)
    let ly := (y.toNat % 2 ^ 32 : Int)
    WritesGpr (exec (.add rs rt rd) s) s rd (w (lx + ly)) ∧
    WritesGpr (exec (.addu rs rt rd) s) s rd (w (lx + ly)) ∧
    WritesGpr (exec (.sub rs rt rd) s) s rd (w (lx - ly)) ∧
    WritesGpr (exec (.subu rs rt rd) s) s rd (w (lx - ly)) ∧
    WritesGpr (exec (.addi rs rt imm) s) s rt (w (lx + imm.toInt)) ∧
    WritesGpr (exec (.addiu rs rt imm) s) s rt (w (lx + imm.toInt)) ∧
    WritesGpr (exec (.dadd rs rt rd) s) s rd (BitVec.ofInt 64 (x.toInt + y.toInt)) ∧
    WritesGpr (exec (.daddu rs rt rd) s) s rd (BitVec.ofInt 64 (x.toInt + y.toInt)) ∧
    WritesGpr (exec (.dsub rs rt rd) s) s rd (BitVec.ofInt 64 (x.toInt - y.toInt)) ∧
    WritesGpr (exec (.dsubu rs rt rd) s) s rd (BitVec.ofInt 64 (x.toInt - y.toInt)) ∧
    WritesGpr (exec (.daddi rs rt imm) s) s rt (BitVec.ofInt 64 (x.toInt + imm.toInt)) ∧
    WritesGpr (exec (.daddiu rs rt imm) s) s rt (BitVec.ofInt 64 (x.toInt + imm.toInt))

/-- AND, OR, XOR, NOR and their immediate forms (zero-extended) complete in every state and write only their
destination, bit by bit; LUI writes the immediate times 2^16, sign-extended; the set instructions write 1 or 0 by the
64-bit signed or unsigned comparison, the immediate sign-extended. (R313, R314, R315, R316, R317, R318, R319, R320,
R321, R322, R323, R324) -/
def Obligations.LogicalAndSet : Prop :=
  ∀ (s : State) (rs rt rd : Reg) (imm : Half),
    let x := s.gpr rs
    let y := s.gpr rt
    let z : Word := imm.setWidth 64
    let b (c : Bool) : Word := if c then 1#64 else 0#64
    (∀ p ∈ [(Instr.and rs rt rd, rd, fun k => x.getLsbD k && y.getLsbD k),
        (.or rs rt rd, rd, fun k => x.getLsbD k || y.getLsbD k),
        (.xor rs rt rd, rd, fun k => x.getLsbD k != y.getLsbD k),
        (.nor rs rt rd, rd, fun k => !(x.getLsbD k || y.getLsbD k)),
        (.andi rs rt imm, rt, fun k => x.getLsbD k && z.getLsbD k),
        (.ori rs rt imm, rt, fun k => x.getLsbD k || z.getLsbD k),
        (.xori rs rt imm, rt, fun k => x.getLsbD k != z.getLsbD k)],
      Completes (exec p.1 s) { gprs := [p.2.1] } s fun t =>
        ∀ k, k < 64 → (t.gpr p.2.1).getLsbD k = (decide (p.2.1 ≠ 0#5) && p.2.2 k)) ∧
    WritesGpr (exec (.lui rt imm) s) s rt (BitVec.ofInt 64 (imm.toInt * 2 ^ 16)) ∧
    WritesGpr (exec (.slt rs rt rd) s) s rd (b (decide (x.toInt < y.toInt))) ∧
    WritesGpr (exec (.sltu rs rt rd) s) s rd (b (decide (x.toNat < y.toNat))) ∧
    WritesGpr (exec (.slti rs rt imm) s) s rt (b (decide (x.toInt < imm.toInt))) ∧
    WritesGpr (exec (.sltiu rs rt imm) s) s rt (b (decide (x.toNat < (imm.signExtend 64 : Word).toNat)))

/-- The fifteen shifts complete in every state and write only rd: left shifts the product by 2^n modulo the width,
logical right shifts the quotient of the unsigned value, arithmetic right shifts the floored quotient of the signed
value; 32-bit forms use the low half and sign-extend the result; n is sa, sa + 32, or the low 5 or 6 bits of x[rs].
(R328, R329, R330, R331, R332, R333, R334, R335, R336, R337, R338, R339) -/
def Obligations.Shifts : Prop :=
  ∀ (s : State) (rs rt rd : Reg) (sa : BitVec 5),
    let y := s.gpr rt
    let ly : Word32 := y.setWidth 32
    let w (v : Word32) : Word := v.signExtend 64
    let n5 := (s.gpr rs).toNat % 32
    let n6 := (s.gpr rs).toNat % 64
    let n := sa.toNat
    WritesGpr (exec (.sll rt rd sa) s) s rd (w (BitVec.ofNat 32 (ly.toNat * 2 ^ n))) ∧
    WritesGpr (exec (.srl rt rd sa) s) s rd (w (BitVec.ofNat 32 (ly.toNat / 2 ^ n))) ∧
    WritesGpr (exec (.sra rt rd sa) s) s rd (w (BitVec.ofInt 32 (ly.toInt / 2 ^ n))) ∧
    WritesGpr (exec (.sllv rs rt rd) s) s rd (w (BitVec.ofNat 32 (ly.toNat * 2 ^ n5))) ∧
    WritesGpr (exec (.srlv rs rt rd) s) s rd (w (BitVec.ofNat 32 (ly.toNat / 2 ^ n5))) ∧
    WritesGpr (exec (.srav rs rt rd) s) s rd (w (BitVec.ofInt 32 (ly.toInt / 2 ^ n5))) ∧
    WritesGpr (exec (.dsll rt rd sa) s) s rd (BitVec.ofNat 64 (y.toNat * 2 ^ n)) ∧
    WritesGpr (exec (.dsrl rt rd sa) s) s rd (BitVec.ofNat 64 (y.toNat / 2 ^ n)) ∧
    WritesGpr (exec (.dsra rt rd sa) s) s rd (BitVec.ofInt 64 (y.toInt / 2 ^ n)) ∧
    WritesGpr (exec (.dsll32 rt rd sa) s) s rd (BitVec.ofNat 64 (y.toNat * 2 ^ (n + 32))) ∧
    WritesGpr (exec (.dsrl32 rt rd sa) s) s rd (BitVec.ofNat 64 (y.toNat / 2 ^ (n + 32))) ∧
    WritesGpr (exec (.dsra32 rt rd sa) s) s rd (BitVec.ofInt 64 (y.toInt / 2 ^ (n + 32))) ∧
    WritesGpr (exec (.dsllv rs rt rd) s) s rd (BitVec.ofNat 64 (y.toNat * 2 ^ n6)) ∧
    WritesGpr (exec (.dsrlv rs rt rd) s) s rd (BitVec.ofNat 64 (y.toNat / 2 ^ n6)) ∧
    WritesGpr (exec (.dsrav rs rt rd) s) s rd (BitVec.ofInt 64 (y.toInt / 2 ^ n6))

/-- MULT, MULTU, DMULT and DMULTU complete in every state and write only HI and LO, the high and the low half of the
exact signed or unsigned product, the halves of the 32-bit forms sign-extended, each truncated to HILO_W bits. (R340,
R341, R344, R345) -/
def Obligations.Multiply : Prop :=
  ∀ (s : State) (rs rt : Reg),
    let x := s.gpr rs
    let y := s.gpr rt
    let lx : Word32 := x.setWidth 32
    let ly : Word32 := y.setWidth 32
    let keep (v : Word) : Word := match s.params.hiloWidth with
      | .w32 => BitVec.ofNat 64 (v.toNat % 2 ^ 32)
      | .w64 => v
    ∀ p ∈ [(Instr.mult rs rt, (BitVec.ofInt 32 (lx.toInt * ly.toInt / 2 ^ 32)).signExtend 64,
          (BitVec.ofInt 32 (lx.toInt * ly.toInt)).signExtend 64),
        (.multu rs rt, (BitVec.ofNat 32 (lx.toNat * ly.toNat / 2 ^ 32)).signExtend 64,
          (BitVec.ofNat 32 (lx.toNat * ly.toNat)).signExtend 64),
        (.dmult rs rt, BitVec.ofInt 64 (x.toInt * y.toInt / 2 ^ 64), BitVec.ofInt 64 (x.toInt * y.toInt)),
        (.dmultu rs rt, BitVec.ofNat 64 (x.toNat * y.toNat / 2 ^ 64), BitVec.ofNat 64 (x.toNat * y.toNat))],
      Completes (exec p.1 s) { hi := true, lo := true } s fun t => t.hi = keep p.2.1 ∧ t.lo = keep p.2.2

/-- DIV, DIVU, DDIV and DDIVU complete and write only HI and LO. A zero divisor gives LO = -1 for a dividend that is
not negative and 1 for a negative one (all ones for the unsigned forms) and HI the dividend. The most negative value
by -1 halts or gives LO = itself, HI = 0, by DIV_OVERFLOW. Otherwise dividend = divisor * LO + HI, with HI smaller
than the divisor in magnitude and of the dividend's sign. (R342, R343, R346, R347) -/
def Obligations.Divide : Prop :=
  ∀ (s : State) (rs rt : Reg),
    let x := s.gpr rs
    let y := s.gpr rt
    let lx : Word32 := x.setWidth 32
    let ly : Word32 := y.setWidth 32
    let keep (v : Word) : Word := match s.params.hiloWidth with
      | .w32 => BitVec.ofNat 64 (v.toNat % 2 ^ 32)
      | .w64 => v
    let res (i : Instr) (lo hi : Word) : Prop :=
      Completes (exec i s) { hi := true, lo := true } s fun t => t.hi = keep hi ∧ t.lo = keep lo
    (ly = 0#32 → res (.div rs rt) (if lx.toInt < 0 then 1#64 else BitVec.allOnes 64) (lx.signExtend 64) ∧
      res (.divu rs rt) (BitVec.allOnes 64) (lx.signExtend 64)) ∧
    (y = 0#64 → res (.ddiv rs rt) (if x.toInt < 0 then 1#64 else BitVec.allOnes 64) x ∧
      res (.ddivu rs rt) (BitVec.allOnes 64) x) ∧
    (lx.toInt = -2 ^ 31 → ly.toInt = -1 →
      (s.params.divOverflow = .halt → exec (.div rs rt) s = .fault (.divOverflow (s.pc - 4#64))) ∧
      (s.params.divOverflow = .mips → res (.div rs rt) 0xFFFFFFFF80000000#64 0#64)) ∧
    (x.toInt = -2 ^ 63 → y.toInt = -1 →
      (s.params.divOverflow = .halt → exec (.ddiv rs rt) s = .fault (.divOverflow (s.pc - 4#64))) ∧
      (s.params.divOverflow = .mips → res (.ddiv rs rt) 0x8000000000000000#64 0#64)) ∧
    (ly ≠ 0#32 → ¬ (lx.toInt = -2 ^ 31 ∧ ly.toInt = -1) → ∃ q r : Int, lx.toInt = ly.toInt * q + r ∧
      r.natAbs < ly.toInt.natAbs ∧ (0 ≤ lx.toInt → 0 ≤ r) ∧ (lx.toInt ≤ 0 → r ≤ 0) ∧
      res (.div rs rt) (BitVec.ofInt 64 q) (BitVec.ofInt 64 r)) ∧
    (ly ≠ 0#32 → ∃ q r : Nat, lx.toNat = ly.toNat * q + r ∧ r < ly.toNat ∧
      res (.divu rs rt) ((BitVec.ofNat 32 q).signExtend 64) ((BitVec.ofNat 32 r).signExtend 64)) ∧
    (y ≠ 0#64 → ¬ (x.toInt = -2 ^ 63 ∧ y.toInt = -1) → ∃ q r : Int, x.toInt = y.toInt * q + r ∧
      r.natAbs < y.toInt.natAbs ∧ (0 ≤ x.toInt → 0 ≤ r) ∧ (x.toInt ≤ 0 → r ≤ 0) ∧
      res (.ddiv rs rt) (BitVec.ofInt 64 q) (BitVec.ofInt 64 r)) ∧
    (y ≠ 0#64 → ∃ q r : Nat, x.toNat = y.toNat * q + r ∧ r < y.toNat ∧
      res (.ddivu rs rt) (BitVec.ofNat 64 q) (BitVec.ofNat 64 r))

/-- MTHI and MTLO complete in every state and write only HI or LO, the value truncated to HILO_W bits; MFHI and MFLO
write only rd, sign-extended from 32 bits when HILO_W is 32. (R348, R349, R350, R351) -/
def Obligations.HiLoMoves : Prop :=
  ∀ (s : State) (rs rd : Reg),
    let read (c : Word) : Word := match s.params.hiloWidth with
      | .w32 => (c.setWidth 32).signExtend 64
      | .w64 => c
    let keep (v : Word) : Word := match s.params.hiloWidth with
      | .w32 => BitVec.ofNat 64 (v.toNat % 2 ^ 32)
      | .w64 => v
    WritesGpr (exec (.mfhi rd) s) s rd (read s.hi) ∧
    WritesGpr (exec (.mflo rd) s) s rd (read s.lo) ∧
    Completes (exec (.mthi rs) s) { hi := true } s (fun t => t.hi = keep (s.gpr rs)) ∧
    Completes (exec (.mtlo rs) s) { lo := true } s (fun t => t.lo = keep (s.gpr rs))

/-- In every state NOP, SYNC, CACHE with any operands, TLBR, TLBWI, TLBWR and TLBP complete and leave the state as the
fetch left it. That the four TLB instructions do so in every state, TLB_OPS = halt included, is the model's choice
(log 22): the step halts before them then. (R352, R520, R521, R522, R523, R530, R531) -/
def Obligations.NoEffectInstructions : Prop :=
  ∀ (s : State) (stype : BitVec 5) (base : Reg) (op : BitVec 5) (offset : Half),
    ∀ i ∈ [Instr.nop, .sync stype, .cache base op offset, .tlbr, .tlbwi, .tlbwr, .tlbp], exec i s = .next s

/-- Outside a delay slot J, JAL, JR and JALR complete: pending becomes the target with countdown 2, pc stays the
address of the delay slot; J and JAL replace the low 28 bits of that address by target times 4; JR and JALR take x[rs]
as it was before the link; the link is the address of the instruction plus 8, in x[31] or x[rd]. (R405, R406, R407,
R408) -/
def Obligations.Jumps : Prop :=
  ∀ (s : State) (rs rd : Reg) (target : BitVec 26), NotInDelaySlot s →
    let region : Word := BitVec.ofNat 64 (s.pc.toNat / 2 ^ 28 * 2 ^ 28 + target.toNat * 4)
    let jumps (i : Instr) (gs : List Reg) (a : Word) (P : State → Prop) : Prop :=
      Completes (exec i s) { gprs := gs, control := true } s fun t =>
        t.pending = some ⟨a, .two⟩ ∧ t.pc = s.pc ∧ P t
    jumps (.j target) [] region (fun _ => True) ∧
    jumps (.jal target) [31#5] region (fun t => t.gpr 31#5 = s.pc + 4#64) ∧
    jumps (.jr rs) [] (s.gpr rs) (fun _ => True) ∧
    jumps (.jalr rs rd) [rd] (s.gpr rs) (fun t => t.gpr rd = if rd = 0#5 then 0#64 else s.pc + 4#64)

/-- Outside a delay slot every integer branch completes. If its 64-bit condition holds, pending becomes the delay-slot
address plus 4 times the signed offset, with countdown 2, and pc stays; if not, an ordinary branch changes neither,
and a likely branch advances pc by 4, past the delay slot. The link forms write the address plus 8 to x[31] either
way, the condition read before. (R409, R410, R411, R412, R413, R414, R415, R416, R421, R422, R423, R424) -/
def Obligations.IntegerBranches : Prop :=
  ∀ (s : State) (rs rt : Reg) (off : Half), NotInDelaySlot s →
    let x := s.gpr rs
    let y := s.gpr rt
    ∀ p ∈ [(Instr.beq rs rt off, decide (x = y), false, false), (.beql rs rt off, decide (x = y), true, false),
        (Instr.bne rs rt off, decide (x ≠ y), false, false), (.bnel rs rt off, decide (x ≠ y), true, false),
        (.blez rs off, decide (x.toInt ≤ 0), false, false), (.blezl rs off, decide (x.toInt ≤ 0), true, false),
        (.bgtz rs off, decide (0 < x.toInt), false, false), (.bgtzl rs off, decide (0 < x.toInt), true, false),
        (.bltz rs off, decide (x.toInt < 0), false, false), (.bltzl rs off, decide (x.toInt < 0), true, false),
        (.bltzal rs off, decide (x.toInt < 0), false, true), (.bltzall rs off, decide (x.toInt < 0), true, true),
        (.bgez rs off, decide (0 ≤ x.toInt), false, false), (.bgezl rs off, decide (0 ≤ x.toInt), true, false),
        (.bgezal rs off, decide (0 ≤ x.toInt), false, true), (.bgezall rs off, decide (0 ≤ x.toInt), true, true)],
      Completes (exec p.1 s) { gprs := if p.2.2.2 then [31#5] else [], control := true } s fun t =>
        (p.2.2.2 = true → t.gpr 31#5 = s.pc + 4#64) ∧
        (p.2.1 = true → t.pending = some ⟨s.pc + BitVec.ofInt 64 (4 * off.toInt), .two⟩ ∧ t.pc = s.pc) ∧
        (p.2.1 = false → t.pending = none ∧ t.pc = if p.2.2.1 then s.pc + 4#64 else s.pc)

/-- Outside a delay slot and with CU1 = 1, BC1F and BC1FL branch when FCSR bit 23 is 0, BC1T and BC1TL when it is 1:
pending and pc as for the integer branches, the likely forms skipping the delay slot when not taken; nothing else
changes. (R425, R426, R427, R428) -/
def Obligations.Cop1Branches : Prop :=
  ∀ (s : State) (off : Half), NotInDelaySlot s → Cop1Usable s →
    ∀ p ∈ [(Instr.bc1f off, !s.fcr31.getLsbD 23, false), (.bc1t off, s.fcr31.getLsbD 23, false),
        (.bc1fl off, !s.fcr31.getLsbD 23, true), (.bc1tl off, s.fcr31.getLsbD 23, true)],
      Completes (exec p.1 s) { control := true } s fun t =>
        (p.2.1 = true → t.pending = some ⟨s.pc + BitVec.ofInt 64 (4 * off.toInt), .two⟩ ∧ t.pc = s.pc) ∧
        (p.2.1 = false → t.pending = none ∧ t.pc = if p.2.2 then s.pc + 4#64 else s.pc)

/-- Only bits 31:0 of a virtual address count: 0x80000000 to 0x9FFFFFFF and 0xA0000000 to 0xBFFFFFFF translate by
subtracting their base, every other address halts with UnmappedVirtual and the whole 64-bit address. (R150) -/
def Obligations.Translation : Prop :=
  ∀ va : Word,
    let a := va.toNat % 2 ^ 32
    (a < 0x80000000 → translateAddr va = .error (.unmappedVirtual va)) ∧
    (0x80000000 ≤ a → a < 0xA0000000 → translateAddr va = .ok (a - 0x80000000)) ∧
    (0xA0000000 ≤ a → a < 0xC0000000 → translateAddr va = .ok (a - 0xA0000000)) ∧
    (0xC0000000 ≤ a → translateAddr va = .error (.unmappedVirtual va))

/-- For loads and stores of n bytes: misaligned under MISALIGNED_DATA = halt halts with Misaligned(va, n) before
translation; an unmapped virtual address with UnmappedVirtual; an address in no row with UnmappedPhysical(pa); an
access that starts in a row and ends outside it with UnmappedPhysical(pa + n - 1), unless it is an aligned access to a
device row; a ROM read past the image with UnmappedPhysical(pa), or byte by byte of the first byte that is missing; a
store to ROM with ReadOnlyWrite(pa). (That a bytewise access halts before its first byte, with these addresses, is the
model's choice, log 18; that the end of a ROM access is checked against its row, and of an aligned device access only
against the block, log 26.) A fetch whose pc is not a multiple of 4 halts with Misaligned(pc, 4) whatever
MISALIGNED_DATA says, and otherwise halts where a 4-byte load would. (20_memory.md, 43_load_store.md, 40_cycle.md) -/
def Obligations.AccessHalts : Prop :=
  ∀ (s : State) (n : Nat) (va v : Word), n ∈ [1, 2, 4, 8] →
    let halts (f : Fault) : Prop := load n va s = .error f ∧ store n va v s = .error f
    (va.toNat % n ≠ 0 → s.params.misaligned = .halt → halts (.misaligned va n)) ∧
    (va.toNat % n = 0 ∨ s.params.misaligned = .bytewise →
      (∀ f, translateAddr va = .error f → halts f) ∧
      ∀ pa, translateAddr va = .ok pa →
        (route s.params.physMap pa = none → halts (.unmappedPhysical pa)) ∧
        ∀ row, route s.params.physMap pa = some row →
          ((∀ id len, row.kind = .device id len → va.toNat % n ≠ 0) → row.last < pa + n - 1 →
            halts (.unmappedPhysical (pa + n - 1))) ∧
          (row.kind = .rom → pa + n - 1 ≤ row.last →
            store n va v s = .error (.readOnlyWrite pa) ∧
            (va.toNat % n = 0 → s.rom.length < pa - row.base + n → load n va s = .error (.unmappedPhysical pa)) ∧
            (va.toNat % n ≠ 0 → s.rom.length < pa - row.base + n →
              load n va s = .error (.unmappedPhysical (max pa (row.base + s.rom.length)))))) ∧
    (s.pc.toNat % 4 ≠ 0 → fetch s = .error (.misaligned s.pc 4)) ∧
    (s.pc.toNat % 4 = 0 → ∀ f, load 4 s.pc s = .error f → fetch s = .error f)

/-- A read of n bytes in a memory row returns the bytes there and changes nothing; in the ROM row within the image the
image bytes from the offset; in a device row an aligned read past the register block returns 0 and changes nothing,
and one inside it changes only the draw counter, by one draw (the model's choice, log 12), and returns the bytes held
of registers that store their value (the model's free value, log 31). Where the interrupt controller follows the
register map of R741 (log 14), its pending and mask registers read as the pending and mask bits. Values are
big-endian: byte k is bits 8(n-k)-1 to 8(n-k-1). A misaligned read under MISALIGNED_DATA = bytewise that lies in one
row is n reads of one byte in increasing order, whatever the row (logs 18 and 26). (20_memory.md, 60_exceptions.md) -/
def Obligations.BusReads : Prop :=
  ∀ (s : State) (n : Nat) (va : Word) (pa : Nat), n ∈ [1, 2, 4, 8] →
    (MemoryAccess s n va pa → ∃ v, load n va s = .ok (v, s) ∧ (∀ j, 8 * n ≤ j → v.getLsbD j = false) ∧
      ∀ k, k < n → v.extractLsb' (8 * (n - 1 - k)) 8 = s.mem.byte (pa + k)) ∧
    (∀ row, va.toNat % n = 0 → translateAddr va = .ok pa → route s.params.physMap pa = some row →
      (row.kind = .rom → pa + n - 1 ≤ row.last → pa - row.base + n ≤ s.rom.length →
        ∃ v, load n va s = .ok (v, s) ∧ (∀ j, 8 * n ≤ j → v.getLsbD j = false) ∧
          ∀ k, k < n → s.rom[pa - row.base + k]? = some (v.extractLsb' (8 * (n - 1 - k)) 8)) ∧
      (∀ id len, row.kind = .device id len → len < pa - row.base + n → load n va s = .ok (0#64, s)) ∧
      (∀ id len, row.kind = .device id len → pa - row.base + n ≤ len →
        ∃ v, load n va s = .ok (v, { s with draws := s.draws + 1 }) ∧ (∀ j, 8 * n ≤ j → v.getLsbD j = false) ∧
          (id ≠ .mi ∨ s.params.miMap = .oracle → ∀ k, k < n → Config.storesValue id (pa - row.base + k) = true →
            v.extractLsb' (8 * (n - 1 - k)) 8 = (s.blocks.get id).byte (pa - row.base + k))) ∧
      (row.kind = .device .mi 16 → s.params.miMap = .registers → n = 4 →
        (pa = row.base + 8 → load n va s = .ok (s.miIntr.setWidth 64, { s with draws := s.draws + 1 })) ∧
        (pa = row.base + 12 → load n va s = .ok (s.miMask.setWidth 64, { s with draws := s.draws + 1 })))) ∧
    (∀ row, va.toNat % n ≠ 0 → s.params.misaligned = .bytewise → translateAddr va = .ok pa → row.last < 2 ^ 29 →
      (∀ k, k < n → route s.params.physMap (pa + k) = some row) → load n va s = loadBytes va n s)

/-- A write of n bytes in a memory row stores them, the most significant first, and changes nothing else; a read back
returns the low n bytes of the value. In a device row an aligned write past the register block changes nothing; one
inside it changes at most memory, the devices' register blocks, the pending and mask bits, Cause bit 10 and the draw
counter, and memory only at addresses of memory rows, and Cause bit 10 is then 1 exactly when a pending bit is
unmasked. That a write to the controller moves no memory, that a write to another device leaves the mask bits, and
that a write takes exactly one draw of the free values, are the model's choice (log 13). The registers that store
their value hold the bytes written, and one-byte reads give them back (the model's free value, log 31). A misaligned
write under MISALIGNED_DATA = bytewise that lies in one row is n writes of one byte in increasing order, whatever the
row (logs 18 and 26), each with an effect of its own (log 31). (20_memory.md, 60_exceptions.md) -/
def Obligations.BusWrites : Prop :=
  ∀ (s : State) (n : Nat) (va v : Word) (pa : Nat), n ∈ [1, 2, 4, 8] → s.mem.wf →
    (∀ id, (s.blocks.get id).wf) →
    (MemoryAccess s n va pa → ∃ t, store n va v s = .ok t ∧ Frame { bytes := (pa, n) } s t ∧ t.mem.wf ∧
      (∀ k, k < n → t.mem.byte (pa + k) = v.extractLsb' (8 * (n - 1 - k)) 8) ∧
      load n va t = .ok (BitVec.ofNat 64 (v.toNat % 2 ^ (8 * n)), t)) ∧
    (∀ row id len, va.toNat % n = 0 → translateAddr va = .ok pa → route s.params.physMap pa = some row →
      row.kind = .device id len →
      (len < pa - row.base + n → store n va v s = .ok s) ∧
      (pa - row.base + n ≤ len → ∃ t, store n va v s = .ok t ∧ t.mem.wf ∧ (∀ i, (t.blocks.get i).wf) ∧
        (∀ k, k < n → Config.storesValue id (pa - row.base + k) = true →
          (t.blocks.get id).byte (pa - row.base + k) = v.extractLsb' (8 * (n - 1 - k)) 8 ∧
          (id ≠ .mi ∨ s.params.miMap = .oracle → route s.params.physMap (pa + k) = some row →
            ∃ u, load 1 (va + BitVec.ofNat 64 k) t = .ok ((v.extractLsb' (8 * (n - 1 - k)) 8).setWidth 64, u))) ∧
        (∀ a, inMemory s.params.physMap a = false → t.mem.byte a = s.mem.byte a) ∧
        t.cause.getLsbD 10 = decide (t.miIntr &&& t.miMask ≠ 0#6) ∧
        t.cause &&& 0xFFFFFBFF#32 = s.cause &&& 0xFFFFFBFF#32 ∧ (id ≠ .mi → t.miMask = s.miMask) ∧
        (id = .mi → t.mem = s.mem) ∧ t.draws = s.draws + 1 ∧
        Frame { cop0 := [13#5] } s
          { t with mem := s.mem, blocks := s.blocks, miIntr := s.miIntr, miMask := s.miMask, draws := s.draws })) ∧
    (∀ row, va.toNat % n ≠ 0 → s.params.misaligned = .bytewise → translateAddr va = .ok pa → row.last < 2 ^ 29 →
      (∀ k, k < n → route s.params.physMap (pa + k) = some row) → store n va v s = storeBytes va n v n s)

/-- LB, LBU, LH, LHU, LW, LWU and LD from a memory row complete and write only rt: the big-endian bytes at x[base]
plus the signed offset, extended as the instruction says. From any other place they complete with what the bus read
returns and its effect, and halt when it halts. (R455, R456, R457, R458, R459, R460, R461) -/
def Obligations.IntegerLoads : Prop :=
  ∀ (s : State) (base rt : Reg) (offset : Half),
    let va := s.gpr base + offset.signExtend 64
    ∀ p ∈ [(Instr.lb base rt offset, 1, fun v : Word => (v.setWidth 8).signExtend 64),
        (.lbu base rt offset, 1, fun v => (v.setWidth 8).setWidth 64),
        (.lh base rt offset, 2, fun v => (v.setWidth 16).signExtend 64),
        (.lhu base rt offset, 2, fun v => (v.setWidth 16).setWidth 64),
        (.lw base rt offset, 4, fun v => (v.setWidth 32).signExtend 64),
        (.lwu base rt offset, 4, fun v => (v.setWidth 32).setWidth 64),
        (.ld base rt offset, 8, fun v => v)],
      (∀ pa, MemoryAccess s p.2.1 va pa → WritesGpr (exec p.1 s) s rt (p.2.2 (s.mem.readBE pa p.2.1))) ∧
      (∀ v u, load p.2.1 va s = .ok (v, u) → exec p.1 s = .next (u.setGpr rt (p.2.2 v))) ∧
      (∀ f, load p.2.1 va s = .error f → exec p.1 s = .fault f)

/-- SB, SH, SW and SD to a memory row complete and change only the 1, 2, 4 or 8 bytes at x[base] plus the signed
offset, to the low bytes of x[rt]. To a device row they complete with the effect of the bus write, and halt when the
store's checks halt. (R462, R463, R464, R465) -/
def Obligations.IntegerStores : Prop :=
  ∀ (s : State) (base rt : Reg) (offset : Half),
    let va := s.gpr base + offset.signExtend 64
    ∀ p ∈ [(Instr.sb base rt offset, 1), (.sh base rt offset, 2), (.sw base rt offset, 4), (.sd base rt offset, 8)],
      (∀ pa, s.mem.wf → MemoryAccess s p.2 va pa → StoresBytes (exec p.1 s) s pa p.2 (s.gpr rt)) ∧
      (∀ u, store p.2 va (s.gpr rt) s = .ok u → exec p.1 s = .next u) ∧
      (∀ f, store p.2 va (s.gpr rt) s = .error f → exec p.1 s = .fault f)

/-- From a memory row, with k the offset of the address in its aligned unit of n bytes: the left forms replace the n -
k most significant bytes of the register's low n bytes by those from the address to the end of the unit, the right
forms the k + 1 least significant by those from the start of the unit to the address; the other bytes stay; word
results are sign-extended; only rt is written, and no alignment halts. From any other place they complete with the
effect of the bus read, the unit's bytes those of the value read, merged in the same way, and halt when it halts.
(43_load_store.md) -/
def Obligations.PartLoads : Prop :=
  ∀ (s : State) (base rt : Reg) (offset : Half),
    let va := s.gpr base + offset.signExtend 64
    ∀ p ∈ [(Instr.lwl base rt offset, 4, true), (.lwr base rt offset, 4, false),
        (.ldl base rt offset, 8, true), (.ldr base rt offset, 8, false)],
      let n := p.2.1
      let k := va.toNat % n
      (∀ f, load n (va - BitVec.ofNat 64 k) s = .error f → exec p.1 s = .fault f) ∧
      (∀ v u, load n (va - BitVec.ofNat 64 k) s = .ok (v, u) → ∃ r, exec p.1 s = .next (u.setGpr rt r) ∧
        (n = 4 → r = (r.setWidth 32).signExtend 64) ∧
        ∀ j, j < n → r.extractLsb' (8 * (n - 1 - j)) 8 =
          if p.2.2 then
            if j < n - k then v.extractLsb' (8 * (n - 1 - (k + j))) 8 else (s.gpr rt).extractLsb' (8 * (n - 1 - j)) 8
          else
            if n - 1 - k ≤ j then v.extractLsb' (8 * (n - 1 - (j - (n - 1 - k)))) 8
            else (s.gpr rt).extractLsb' (8 * (n - 1 - j)) 8) ∧
      ∀ pa, MemoryAccess s n (va - BitVec.ofNat 64 k) pa →
        Completes (exec p.1 s) { gprs := [rt] } s fun t => rt ≠ 0#5 →
          (n = 4 → t.gpr rt = ((t.gpr rt).setWidth 32).signExtend 64) ∧
          ∀ j, j < n → (t.gpr rt).extractLsb' (8 * (n - 1 - j)) 8 =
            if p.2.2 then
              if j < n - k then s.mem.byte (pa + k + j) else (s.gpr rt).extractLsb' (8 * (n - 1 - j)) 8
            else
              if n - 1 - k ≤ j then s.mem.byte (pa + j - (n - 1 - k))
              else (s.gpr rt).extractLsb' (8 * (n - 1 - j)) 8

/-- To a memory row, with k the offset of the address in its aligned unit of n bytes: the left forms store the n - k
most significant bytes of the register's low n bytes from the address to the end of the unit, the right forms the k +
1 least significant from the start of the unit to the address; no other byte and no register changes. They halt when
the store's checks halt. (43_load_store.md) -/
def Obligations.PartStores : Prop :=
  ∀ (s : State) (base rt : Reg) (offset : Half),
    let va := s.gpr base + offset.signExtend 64
    ∀ p ∈ [(Instr.swl base rt offset, 4, true), (.swr base rt offset, 4, false),
        (.sdl base rt offset, 8, true), (.sdr base rt offset, 8, false)],
      let n := p.2.1
      let k := va.toNat % n
      (∀ f, storeAccess n (va - BitVec.ofNat 64 k) s = .error f → exec p.1 s = .fault f) ∧
      (∀ a, storeAccess n (va - BitVec.ofNat 64 k) s = .ok a → ∃ t, exec p.1 s = .next t) ∧
      ∀ pa, s.mem.wf → MemoryAccess s n (va - BitVec.ofNat 64 k) pa →
        Completes (exec p.1 s) { bytes := if p.2.2 then (pa + k, n - k) else (pa, k + 1) } s fun t =>
          ∀ j, j < n →
            (p.2.2 = true → k ≤ j → t.mem.byte (pa + j) = (s.gpr rt).extractLsb' (8 * (n - 1 - (j - k))) 8) ∧
            (p.2.2 = false → j ≤ k → t.mem.byte (pa + j) = (s.gpr rt).extractLsb' (8 * (k - j)) 8)

/-- From a memory row LL and LLD complete: rt gets the word sign-extended or the doubleword, llbit is true, LLAddr the
physical address over 16. To a memory row SC and SCD complete: with llbit true they store the low bytes of rt and set
rt to 1, with llbit false they store nothing and set rt to 0; llbit is false after. All of them halt when the access
checks halt, SC and SCD whatever llbit holds (that this includes the check for a ROM target is the model's choice, log
20). (43_load_store.md) -/
def Obligations.LoadLinkedStoreConditional : Prop :=
  ∀ (s : State) (base rt : Reg) (offset : Half),
    let va := s.gpr base + offset.signExtend 64
    (∀ p ∈ [(Instr.ll base rt offset, 4, fun v : Word => (v.setWidth 32).signExtend 64),
        (.lld base rt offset, 8, fun v => v)],
      (∀ f, load p.2.1 va s = .error f → exec p.1 s = .fault f) ∧
      (∀ v u, load p.2.1 va s = .ok (v, u) → ∃ t, exec p.1 s = .next t ∧ t.llbit = true ∧
        (rt ≠ 0#5 → t.gpr rt = p.2.2 v) ∧ ∀ pa, translateAddr va = .ok pa → t.cop0 17#5 = BitVec.ofNat 32 (pa / 16)) ∧
      ∀ pa, MemoryAccess s p.2.1 va pa →
        Completes (exec p.1 s) { gprs := [rt], cop0 := [17#5], llbit := true } s fun t =>
          t.gpr rt = (if rt = 0#5 then 0#64 else p.2.2 (s.mem.readBE pa p.2.1)) ∧ t.llbit = true ∧
          t.cop0 17#5 = BitVec.ofNat 32 (pa / 16)) ∧
    ∀ p ∈ [(Instr.sc base rt offset, 4), (.scd base rt offset, 8)],
      (∀ f, storeAccess p.2 va s = .error f → exec p.1 s = .fault f) ∧
      (∀ a, storeAccess p.2 va s = .ok a → ∃ t, exec p.1 s = .next t ∧ t.llbit = false ∧
        (rt ≠ 0#5 → t.gpr rt = if s.llbit then 1#64 else 0#64)) ∧
      ∀ pa, s.mem.wf → MemoryAccess s p.2 va pa →
        Completes (exec p.1 s) { gprs := [rt], llbit := true, bytes := if s.llbit then (pa, p.2) else (pa, 0) } s
          fun t => t.llbit = false ∧ t.gpr rt = (if rt ≠ 0#5 ∧ s.llbit = true then 1#64 else 0#64) ∧
            (s.llbit = true → ∀ k, k < p.2 →
              t.mem.byte (pa + k) = (s.gpr rt).extractLsb' (8 * (p.2 - 1 - k)) 8)

/-- With CU1 = 1, from and to a memory row: LWC1 writes the low half of slot ft, SWC1 stores it; LDC1 writes and SDC1
stores the 64-bit register ft: its slot with FR = 1, the pair with FR = 0 and ft even, the high word from the odd
slot; with FR = 0 and ft odd both halt with OddFprPair before the access. They halt when the access halts.
(43_load_store.md, 10_state.md) -/
def Obligations.Cop1LoadsAndStores : Prop :=
  ∀ (s : State) (base ft : Reg) (offset : Half), Cop1Usable s →
    let va := s.gpr base + offset.signExtend 64
    let v64 : Word := if s.status.getLsbD 26 then s.slot ft
      else (s.slot (ft + 1#5)).extractLsb' 0 32 ++ (s.slot ft).extractLsb' 0 32
    (∀ pa, MemoryAccess s 4 va pa →
      WritesFpr32 (exec (.lwc1 base ft offset) s) s ft ((s.mem.readBE pa 4).setWidth 32) ∧
      (s.mem.wf → StoresBytes (exec (.swc1 base ft offset) s) s pa 4 (s.slot ft))) ∧
    (∀ f, load 4 va s = .error f → exec (.lwc1 base ft offset) s = .fault f) ∧
    (∀ v u, load 4 va s = .ok (v, u) → ∃ t, exec (.lwc1 base ft offset) s = .next t) ∧
    (∀ f, storeAccess 4 va s = .error f → exec (.swc1 base ft offset) s = .fault f) ∧
    (∀ a, storeAccess 4 va s = .ok a → ∃ t, exec (.swc1 base ft offset) s = .next t) ∧
    (¬ EvenWhenPaired s [ft] → exec (.ldc1 base ft offset) s = .fault (.oddFprPair ft) ∧
      exec (.sdc1 base ft offset) s = .fault (.oddFprPair ft)) ∧
    (EvenWhenPaired s [ft] →
      (∀ pa, MemoryAccess s 8 va pa →
        WritesFpr64 (exec (.ldc1 base ft offset) s) s ft (s.mem.readBE pa 8) ∧
        (s.mem.wf → StoresBytes (exec (.sdc1 base ft offset) s) s pa 8 v64)) ∧
      (∀ f, load 8 va s = .error f → exec (.ldc1 base ft offset) s = .fault f) ∧
      (∀ v u, load 8 va s = .ok (v, u) → ∃ t, exec (.ldc1 base ft offset) s = .next t) ∧
      (∀ f, storeAccess 8 va s = .error f → exec (.sdc1 base ft offset) s = .fault f) ∧
      (∀ a, storeAccess 8 va s = .ok a → ∃ t, exec (.sdc1 base ft offset) s = .next t))

/-- For every register but Random, MFC0 and DMFC0 complete and write only rt: Count is the low 32 bits of ticks
shifted right by COUNT_SHIFT, every other register its stored value, sign-extended. A read of Random with Wired at
most 31 completes with some value from Wired to 31; with Wired above 31 it halts with RandomRange. (R501, R502) -/
def Obligations.Cop0Reads : Prop :=
  ∀ (s : State) (rt rd : Reg), ∀ i ∈ [Instr.mfc0 rt rd, .dmfc0 rt rd],
    (rd ≠ 1#5 → WritesGpr (exec i s) s rt
      (((if rd = 9#5 then (s.ticks >>> s.params.countShift).setWidth 32 else s.cop0 rd) : Word32).signExtend 64)) ∧
    (rd = 1#5 → 31 < (s.cop0 6#5).toNat → exec i s = .fault .randomRange) ∧
    (rd = 1#5 → (s.cop0 6#5).toNat ≤ 31 →
      Completes (exec i s) { gprs := [rt], draws := true } s fun t => ∃ v : Nat,
        (s.cop0 6#5).toNat ≤ v ∧ v ≤ 31 ∧ t.gpr rt = if rt = 0#5 then 0#64 else BitVec.ofNat 64 v)

/-- MTC0 and DMTC0 complete in every state with the low 32 bits v of x[rt]: Random, BadVAddr and PRId are not written;
Count sets ticks to v shifted left by COUNT_SHIFT; Compare stores v and clears Cause bit 15; Cause takes bits 9:8
only; every other register stores v. Nothing else changes. (R503, R504) -/
def Obligations.Cop0Writes : Prop :=
  ∀ (s : State) (rt rd : Reg), ∀ i ∈ [Instr.mtc0 rt rd, .dmtc0 rt rd],
    let v : Word32 := (s.gpr rt).setWidth 32
    (rd ∈ [1#5, 8#5, 15#5] → exec i s = .next s) ∧
    (rd = 9#5 → exec i s = .next { s with ticks := v.setWidth 64 <<< s.params.countShift }) ∧
    (rd = 11#5 → Completes (exec i s) { cop0 := [11#5, 13#5] } s fun t =>
      t.cop0 11#5 = v ∧ t.cause = s.cause &&& 0xFFFF7FFF#32) ∧
    (rd = 13#5 → Completes (exec i s) { cop0 := [13#5] } s fun t =>
      t.cause = (s.cause &&& 0xFFFFFCFF#32) ||| (v &&& 0x300#32)) ∧
    (rd ∉ [1#5, 8#5, 9#5, 11#5, 13#5, 15#5] → Completes (exec i s) { cop0 := [rd] } s fun t => t.cop0 rd = v)

/-- With CU1 = 1: MFC1, MTC1 and MOV.S use the low half of a slot whatever FR holds; DMFC1, DMTC1 and MOV.D the 64-bit
register, and halt with OddFprPair on an odd register when FR = 0 (on fs where MOV.D has two: the model's choice, log
19); CFC1 reads FCSR, FCR0_VALUE or 0; CTC1 writes FCSR for register 31 and has no effect for another. Each completes
otherwise and writes only its destination. (45_fpu_move_arith.md, 10_state.md) -/
def Obligations.Cop1Moves : Prop :=
  ∀ (s : State) (rt fs fd : Reg), Cop1Usable s →
    let v64 : Word := if s.status.getLsbD 26 then s.slot fs
      else (s.slot (fs + 1#5)).extractLsb' 0 32 ++ (s.slot fs).extractLsb' 0 32
    let ctl : Word32 := if fs = 31#5 then s.fcr31 else if fs = 0#5 then s.params.fcr0 else 0#32
    WritesGpr (exec (.mfc1 rt fs) s) s rt (((s.slot fs).setWidth 32).signExtend 64) ∧
    WritesGpr (exec (.cfc1 rt fs) s) s rt (ctl.signExtend 64) ∧
    WritesFpr32 (exec (.mtc1 rt fs) s) s fs ((s.gpr rt).setWidth 32) ∧
    WritesFpr32 (exec (.movS fs fd) s) s fd ((s.slot fs).setWidth 32) ∧
    (fs = 31#5 → Completes (exec (.ctc1 rt fs) s) { fcsr := true } s fun t => t.fcr31 = (s.gpr rt).setWidth 32) ∧
    (fs ≠ 31#5 → exec (.ctc1 rt fs) s = .next s) ∧
    (EvenWhenPaired s [fs] → WritesGpr (exec (.dmfc1 rt fs) s) s rt v64 ∧
      WritesFpr64 (exec (.dmtc1 rt fs) s) s fs (s.gpr rt)) ∧
    (¬ EvenWhenPaired s [fs] → exec (.dmfc1 rt fs) s = .fault (.oddFprPair fs) ∧
      exec (.dmtc1 rt fs) s = .fault (.oddFprPair fs) ∧ exec (.movD fs fd) s = .fault (.oddFprPair fs)) ∧
    (EvenWhenPaired s [fs, fd] → WritesFpr64 (exec (.movD fs fd) s) s fd v64) ∧
    (EvenWhenPaired s [fs] → ¬ EvenWhenPaired s [fd] → exec (.movD fs fd) s = .fault (.oddFprPair fd))

/-- With CU1 = 1 (and even registers for the D forms when FR = 0): ADD, SUB, MUL, DIV and SQRT write only fd, the
encoding under the mode FCSR selects of the value of the exact operation on the operands' values, or the free NaN of
the operation and the operands' bits; ABS and NEG clear or flip the sign bit of an operand that is no NaN, and write
the free NaN otherwise. That the encoding is the correct rounding, and the operations exact, is stated by
RoundingIsCorrect, QuotientsRoundCorrectly, SquareRootsRoundCorrectly, SumsAndProductsAreExact and SpecialValues; what
number an encoding stands for by FormatConversions. FCSR bits 1:0 = 0, 1, 2, 3 select to nearest, toward zero, up,
down. (45_fpu_move_arith.md, 46_fpu_convert_compare.md) -/
def Obligations.FpArithmetic : Prop :=
  (roundMode 0#2 = .nearest ∧ roundMode 1#2 = .zero ∧ roundMode 2#2 = .up ∧ roundMode 3#2 = .down) ∧
  ∀ (s : State) (ft fs fd : Reg), Cop1Usable s →
    let m := roundMode (s.fcr31.extractLsb' 0 2)
    let a := s.fpr32 fs
    let b := s.fpr32 ft
    let c := s.fpr64 fs
    let d := s.fpr64 ft
    let put32 (op : FpOp) (y : Word) (v : FpVal) : Word32 := match pack single m v with
      | some e => BitVec.ofNat 32 e
      | none => nan32 op (a.setWidth 64) y
    let put64 (op : FpOp) (y : Word) (v : FpVal) : Word := match pack double m v with
      | some e => BitVec.ofNat 64 e
      | none => nan64 op c y
    (∀ p ∈ [(Instr.addS ft fs fd, put32 .addS (b.setWidth 64) (fpAdd m (f32 a) (f32 b))),
        (.subS ft fs fd, put32 .subS (b.setWidth 64) (fpAdd m (f32 a) (fpNegate (f32 b)))),
        (.mulS ft fs fd, put32 .mulS (b.setWidth 64) (fpMul (f32 a) (f32 b))),
        (.divS ft fs fd, put32 .divS (b.setWidth 64) (fpDiv single (f32 a) (f32 b))),
        (.sqrtS fs fd, put32 .sqrtS 0#64 (fpSqrt single (f32 a))),
        (.absS fs fd, if f32 a = .nan then nan32 .absS (a.setWidth 64) 0#64 else BitVec.ofNat 32 (a.toNat % 2 ^ 31)),
        (.negS fs fd, if f32 a = .nan then nan32 .negS (a.setWidth 64) 0#64
          else BitVec.ofNat 32 (a.toNat + 2 ^ 31))],
      WritesFpr32 (exec p.1 s) s fd p.2) ∧
    (EvenWhenPaired s [fs, ft, fd] →
      ∀ p ∈ [(Instr.addD ft fs fd, put64 .addD d (fpAdd m (f64 c) (f64 d))),
          (.subD ft fs fd, put64 .subD d (fpAdd m (f64 c) (fpNegate (f64 d)))),
          (.mulD ft fs fd, put64 .mulD d (fpMul (f64 c) (f64 d))),
          (.divD ft fs fd, put64 .divD d (fpDiv double (f64 c) (f64 d)))],
        WritesFpr64 (exec p.1 s) s fd p.2) ∧
    (EvenWhenPaired s [fs, fd] →
      ∀ p ∈ [(Instr.sqrtD fs fd, put64 .sqrtD 0#64 (fpSqrt double (f64 c))),
          (.absD fs fd, if f64 c = .nan then nan64 .absD c 0#64 else BitVec.ofNat 64 (c.toNat % 2 ^ 63)),
          (.negD fs fd, if f64 c = .nan then nan64 .negD c 0#64 else BitVec.ofNat 64 (c.toNat + 2 ^ 63))],
        WritesFpr64 (exec p.1 s) s fd p.2)

/-- With CU1 = 1 (and even registers for D and L operands when FR = 0): CVT to W and L round under FCSR's mode, ROUND,
TRUNC, CEIL and FLOOR under their own; if the rounded integer fits in N bits, fd and nothing else gets its
two's-complement encoding, otherwise, and for NaN and infinity, the free value of the operation and operand. FCSR is
unchanged. The rounded integer is the one that the mode gives for the operand's number: the nearest, of two the even
one; the truncated one; the ceiling; the floor; NaN and infinity have none. (46_fpu_convert_compare.md) -/
def Obligations.FpToInteger : Prop :=
  (∀ (mode : RoundMode) (neg : Bool) (m : Nat) (e : Int),
    ∃ r, roundToInt mode (.fin neg m e) = some r ∧ RoundsToInt mode (finValue neg m e) r) ∧
  (∀ (mode : RoundMode) (neg : Bool), roundToInt mode .nan = none ∧ roundToInt mode (.inf neg) = none) ∧
  ∀ (s : State) (fs fd : Reg), Cop1Usable s →
    let m := roundMode (s.fcr31.extractLsb' 0 2)
    let a := s.fpr32 fs
    let c := s.fpr64 fs
    let toInt32 (op : FpOp) (x : Word) (mode : RoundMode) (v : FpVal) : Word32 := match roundToInt mode v with
      | some r => if -2 ^ 31 ≤ r ∧ r < 2 ^ 31 then BitVec.ofInt 32 r else Config.cvtInvalid32 op x
      | none => Config.cvtInvalid32 op x
    let toInt64 (op : FpOp) (x : Word) (mode : RoundMode) (v : FpVal) : Word := match roundToInt mode v with
      | some r => if -2 ^ 63 ≤ r ∧ r < 2 ^ 63 then BitVec.ofInt 64 r else Config.cvtInvalid64 op x
      | none => Config.cvtInvalid64 op x
    (∀ p ∈ [(Instr.cvtWS fs fd, toInt32 .cvtWS (a.setWidth 64) m (f32 a)),
        (.roundWS fs fd, toInt32 .roundWS (a.setWidth 64) .nearest (f32 a)),
        (.truncWS fs fd, toInt32 .truncWS (a.setWidth 64) .zero (f32 a)),
        (.ceilWS fs fd, toInt32 .ceilWS (a.setWidth 64) .up (f32 a)),
        (.floorWS fs fd, toInt32 .floorWS (a.setWidth 64) .down (f32 a))],
      WritesFpr32 (exec p.1 s) s fd p.2) ∧
    (EvenWhenPaired s [fs] → ∀ p ∈ [(Instr.cvtWD fs fd, toInt32 .cvtWD c m (f64 c)),
        (.roundWD fs fd, toInt32 .roundWD c .nearest (f64 c)),
        (.truncWD fs fd, toInt32 .truncWD c .zero (f64 c)),
        (.ceilWD fs fd, toInt32 .ceilWD c .up (f64 c)),
        (.floorWD fs fd, toInt32 .floorWD c .down (f64 c))],
      WritesFpr32 (exec p.1 s) s fd p.2) ∧
    (EvenWhenPaired s [fd] → ∀ p ∈ [(Instr.cvtLS fs fd, toInt64 .cvtLS (a.setWidth 64) m (f32 a)),
        (.roundLS fs fd, toInt64 .roundLS (a.setWidth 64) .nearest (f32 a)),
        (.truncLS fs fd, toInt64 .truncLS (a.setWidth 64) .zero (f32 a)),
        (.ceilLS fs fd, toInt64 .ceilLS (a.setWidth 64) .up (f32 a)),
        (.floorLS fs fd, toInt64 .floorLS (a.setWidth 64) .down (f32 a))],
      WritesFpr64 (exec p.1 s) s fd p.2) ∧
    (EvenWhenPaired s [fs, fd] → ∀ p ∈ [(Instr.cvtLD fs fd, toInt64 .cvtLD c m (f64 c)),
        (.roundLD fs fd, toInt64 .roundLD c .nearest (f64 c)),
        (.truncLD fs fd, toInt64 .truncLD c .zero (f64 c)),
        (.ceilLD fs fd, toInt64 .ceilLD c .up (f64 c)),
        (.floorLD fs fd, toInt64 .floorLD c .down (f64 c))],
      WritesFpr64 (exec p.1 s) s fd p.2)

/-- With CU1 = 1 (and even registers for D and L operands when FR = 0): CVT.S.D and CVT.D.S write the value of the
operand encoded in the destination format, or the free NaN for a NaN; CVT from W and L encode the signed integer,
rounded under FCSR's mode; the zero integer gives +0. Only fd is written. An encoding stands for the number of its
magnitude with the sign of its top bit, for an infinity, or for a NaN, by its exponent and fraction; a value is
encoded as its rounded magnitude, or that of infinity, plus the weight of the sign bit where it is negative.
(46_fpu_convert_compare.md, 45_fpu_move_arith.md) -/
def Obligations.FormatConversions : Prop :=
  (∀ f ∈ [single, double], ∀ b, b < 2 * signUnit f →
    let neg := decide (signUnit f ≤ b)
    let k := b % signUnit f
    (k < infEnc f → ∃ m e, unpack f b = .fin neg m e ∧ finValue false m e = magValue f k) ∧
    (k = infEnc f → unpack f b = .inf neg) ∧ (infEnc f < k → unpack f b = .nan)) ∧
  (∀ (v : Word32) (w : Word), f32 v = unpack single v.toNat ∧ f64 w = unpack double w.toNat) ∧
  (∀ (f : Format) (mode : RoundMode) (neg : Bool) (m : Nat) (e : Int), m ≠ 0 →
    let sign := if neg then signUnit f else 0
    pack f mode (.inf neg) = some (sign + infEnc f) ∧ pack f mode (.fin neg 0 e) = some sign ∧
    pack f mode (.fin neg m e) = some (sign + roundMag f mode neg m e)) ∧
  ∀ (s : State) (fs fd : Reg), Cop1Usable s →
    let m := roundMode (s.fcr31.extractLsb' 0 2)
    let a := s.fpr32 fs
    let c := s.fpr64 fs
    let enc (f : Format) (i : Int) : Nat :=
      (if i < 0 then signUnit f else 0) + if i = 0 then 0 else roundMag f m (decide (i < 0)) i.natAbs 0
    WritesFpr32 (exec (.cvtSW fs fd) s) s fd (BitVec.ofNat 32 (enc single a.toInt)) ∧
    (EvenWhenPaired s [fs] →
      WritesFpr32 (exec (.cvtSD fs fd) s) s fd (match pack single m (f64 c) with
        | some e => BitVec.ofNat 32 e
        | none => nan32 .cvtSD c 0#64) ∧
      WritesFpr32 (exec (.cvtSL fs fd) s) s fd (BitVec.ofNat 32 (enc single c.toInt))) ∧
    (EvenWhenPaired s [fd] →
      WritesFpr64 (exec (.cvtDS fs fd) s) s fd (match pack double m (f32 a) with
        | some e => BitVec.ofNat 64 e
        | none => nan64 .cvtDS (a.setWidth 64) 0#64) ∧
      WritesFpr64 (exec (.cvtDW fs fd) s) s fd (BitVec.ofNat 64 (enc double a.toInt))) ∧
    (EvenWhenPaired s [fs, fd] →
      WritesFpr64 (exec (.cvtDL fs fd) s) s fd (BitVec.ofNat 64 (enc double c.toInt)))

/-- With CU1 = 1 (and even registers for the D forms when FR = 0) every compare completes and writes only FCSR bit 23:
the entry of the condition table for its condition and for how the operands compare (less, equal, greater, unordered).
(R657) -/
def Obligations.Compares : Prop :=
  ∀ (s : State) (ft fs : Reg), Cop1Usable s →
    let bitOf (o : FpOrder) (lt eq gt un : Bool) : Bool := match o with
      | .lt => lt
      | .eq => eq
      | .gt => gt
      | .un => un
    let sets (i : Instr) (b : Bool) : Prop := Completes (exec i s) { fcsr := true } s fun t =>
      t.fcr31 = if b then s.fcr31 ||| 0x800000#32 else s.fcr31 &&& 0xFF7FFFFF#32
    ∀ p ∈ [(Instr.cFS ft fs, .cFD ft fs, false, false, false, false),
        (.cUnS ft fs, .cUnD ft fs, false, false, false, true),
        (.cEqS ft fs, .cEqD ft fs, false, true, false, false),
        (.cUeqS ft fs, .cUeqD ft fs, false, true, false, true),
        (.cOltS ft fs, .cOltD ft fs, true, false, false, false),
        (.cUltS ft fs, .cUltD ft fs, true, false, false, true),
        (.cOleS ft fs, .cOleD ft fs, true, true, false, false),
        (.cUleS ft fs, .cUleD ft fs, true, true, false, true),
        (.cSfS ft fs, .cSfD ft fs, false, false, false, false),
        (.cNgleS ft fs, .cNgleD ft fs, false, false, false, true),
        (.cSeqS ft fs, .cSeqD ft fs, false, true, false, false),
        (.cNglS ft fs, .cNglD ft fs, false, true, false, true),
        (.cLtS ft fs, .cLtD ft fs, true, false, false, false),
        (.cNgeS ft fs, .cNgeD ft fs, true, false, false, true),
        (.cLeS ft fs, .cLeD ft fs, true, true, false, false),
        (.cNgtS ft fs, .cNgtD ft fs, true, true, false, true)],
      sets p.1 (bitOf (fpCompare (f32 (s.fpr32 fs)) (f32 (s.fpr32 ft)))
        p.2.2.1 p.2.2.2.1 p.2.2.2.2.1 p.2.2.2.2.2) ∧
      (EvenWhenPaired s [fs, ft] → sets p.2.1 (bitOf (fpCompare (f64 (s.fpr64 fs)) (f64 (s.fpr64 ft)))
        p.2.2.1 p.2.2.2.1 p.2.2.2.2.1 p.2.2.2.2.2))

/-- With CU1 = 1 and FR = 0, every COP1 arithmetic, conversion and compare instruction with a D or L operand or result
in an odd register halts with OddFprPair and such a register: the operands first, then the destination (log 19).
(10_state.md, 45_fpu_move_arith.md, 46_fpu_convert_compare.md) -/
def Obligations.OddPairHalts : Prop :=
  ∀ (s : State) (ft fs fd : Reg), Cop1Usable s → s.status.getLsbD 26 = false →
    let odd (n : Reg) : Prop := n.getLsbD 0 = true
    (∀ i ∈ [Instr.addD ft fs fd, .subD ft fs fd, .mulD ft fs fd, .divD ft fs fd],
      (odd fs → exec i s = .fault (.oddFprPair fs)) ∧
      (¬ odd fs → odd ft → exec i s = .fault (.oddFprPair ft)) ∧
      (¬ odd fs → ¬ odd ft → odd fd → exec i s = .fault (.oddFprPair fd))) ∧
    (∀ i ∈ [Instr.sqrtD fs fd, .absD fs fd, .movD fs fd, .negD fs fd, .cvtDL fs fd, .cvtLD fs fd, .roundLD fs fd,
        .truncLD fs fd, .ceilLD fs fd, .floorLD fs fd],
      (odd fs → exec i s = .fault (.oddFprPair fs)) ∧ (¬ odd fs → odd fd → exec i s = .fault (.oddFprPair fd))) ∧
    (∀ i ∈ [Instr.cvtSD fs fd, .cvtSL fs fd, .cvtWD fs fd, .roundWD fs fd, .truncWD fs fd, .ceilWD fs fd,
        .floorWD fs fd], odd fs → exec i s = .fault (.oddFprPair fs)) ∧
    (∀ i ∈ [Instr.cvtDS fs fd, .cvtDW fs fd, .cvtLS fs fd, .roundLS fs fd, .truncLS fs fd, .ceilLS fs fd,
        .floorLS fs fd], odd fd → exec i s = .fault (.oddFprPair fd)) ∧
    (∀ i ∈ [Instr.cFD ft fs, .cUnD ft fs, .cEqD ft fs, .cUeqD ft fs, .cOltD ft fs, .cUltD ft fs,
        .cOleD ft fs, .cUleD ft fs, .cSfD ft fs, .cNgleD ft fs, .cSeqD ft fs, .cNglD ft fs,
        .cLtD ft fs, .cNgeD ft fs, .cLeD ft fs, .cNgtD ft fs],
      (odd fs → exec i s = .fault (.oddFprPair fs)) ∧ (¬ odd fs → odd ft → exec i s = .fault (.oddFprPair ft)))

/-- For both formats, every mode, sign and number m * 2^e with m not 0, the encoding that the model's rounding gives
is the one IEEE-754 rounding gives: to nearest with ties to even, toward zero, toward plus or minus infinity;
subnormals included; past the largest finite number an infinity or that number, as the mode says.
(46_fpu_convert_compare.md, 45_fpu_move_arith.md) -/
def Obligations.RoundingIsCorrect : Prop :=
  ∀ f ∈ [single, double], ∀ (mode : RoundMode) (neg : Bool) (m : Nat) (e : Int), m ≠ 0 →
    Rounds f mode neg (fun q => q ≤ finValue false m e) (fun q => q < finValue false m e) (roundMag f mode neg m e)

/-- For both formats, every mode and all nonzero finite operands of the format, the rounded result of the division is
the correct rounding of the exact quotient of their values, with the XOR of their signs. (45_fpu_move_arith.md,
46_fpu_convert_compare.md) -/
def Obligations.QuotientsRoundCorrectly : Prop :=
  ∀ f ∈ [single, double], ∀ (mode : RoundMode) (n1 n2 : Bool) (m1 m2 : Nat) (e1 e2 : Int),
    m1 ≠ 0 → m2 ≠ 0 → m1 < 2 ^ (f.fracBits + 1) → m2 < 2 ^ (f.fracBits + 1) →
    ∃ m e, fpDiv f (.fin n1 m1 e1) (.fin n2 m2 e2) = .fin (n1 != n2) m e ∧ m ≠ 0 ∧
      Rounds f mode (n1 != n2) (fun q => q ≤ finValue false m1 e1 / finValue false m2 e2)
        (fun q => q < finValue false m1 e1 / finValue false m2 e2) (roundMag f mode (n1 != n2) m e)

/-- For both formats, every mode and every positive finite operand of the format, the rounded result of the square
root is the correct rounding of the exact root: a number q that is not negative is at most (below) the root exactly
when its square is at most (below) the operand's value. (45_fpu_move_arith.md, 46_fpu_convert_compare.md) -/
def Obligations.SquareRootsRoundCorrectly : Prop :=
  ∀ f ∈ [single, double], ∀ (mode : RoundMode) (m : Nat) (e : Int), m ≠ 0 → m < 2 ^ (f.fracBits + 1) →
    ∃ m' e', fpSqrt f (.fin false m e) = .fin false m' e' ∧ m' ≠ 0 ∧
      Rounds f mode false (fun q => q < 0 ∨ q * q ≤ finValue false m e) (fun q => q < 0 ∨ q * q < finValue false m e)
        (roundMag f mode false m' e')

/-- For all finite operands: the value that is rounded for a sum is exactly the sum of the operands' numbers, for a
product the product, with the XOR of the signs; a zero sum of operands of the same sign keeps it, of different signs
is +0, or -0 toward minus infinity; the comparison is that of the numbers, so +0 and -0 are equal; negation flips the
sign. (45_fpu_move_arith.md, 46_fpu_convert_compare.md) -/
def Obligations.SumsAndProductsAreExact : Prop :=
  ∀ (mode : RoundMode) (n1 n2 : Bool) (m1 m2 : Nat) (e1 e2 : Int),
    let x := finValue n1 m1 e1
    let y := finValue n2 m2 e2
    (∃ n m e, fpAdd mode (.fin n1 m1 e1) (.fin n2 m2 e2) = .fin n m e ∧ finValue n m e = x + y ∧
      (m = 0 → n = if n1 = n2 then n1 else decide (mode = .down))) ∧
    (∃ m e, fpMul (.fin n1 m1 e1) (.fin n2 m2 e2) = .fin (n1 != n2) m e ∧ finValue (n1 != n2) m e = x * y) ∧
    (fpCompare (.fin n1 m1 e1) (.fin n2 m2 e2) = .lt ↔ x < y) ∧
    (fpCompare (.fin n1 m1 e1) (.fin n2 m2 e2) = .eq ↔ x = y) ∧
    (fpCompare (.fin n1 m1 e1) (.fin n2 m2 e2) = .gt ↔ y < x) ∧
    fpNegate (.fin n1 m1 e1) = .fin (!n1) m1 e1 ∧ finValue (!n1) m1 e1 = -x

/-- A NaN operand makes every operation a NaN and every compare unordered; inf - inf, 0 * inf and inf * 0, inf / inf,
0 / 0 and the root of a negative number are NaNs; an infinity plus a finite number or itself is that infinity; an
infinity times a nonzero number or an infinity, over a finite number, and a finite nonzero number over zero, are
infinities of the XOR of the signs; a finite number over an infinity and a zero over a nonzero number are zeros of the
XOR of the signs; the root of a zero keeps its sign; -inf is below and +inf above every finite number and each other;
negation flips the sign. A NaN result has exponent all ones and a nonzero fraction whatever the free value is.
(45_fpu_move_arith.md, 46_fpu_convert_compare.md) -/
def Obligations.SpecialValues : Prop :=
  (∀ (f : Format) (mode : RoundMode) (v : FpVal), fpAdd mode .nan v = .nan ∧ fpAdd mode v .nan = .nan ∧
    fpMul .nan v = .nan ∧ fpMul v .nan = .nan ∧ fpDiv f .nan v = .nan ∧ fpDiv f v .nan = .nan ∧
    fpSqrt f .nan = .nan ∧ fpCompare .nan v = .un ∧ fpCompare v .nan = .un ∧ pack f mode .nan = none ∧
    (v ≠ .nan → pack f mode v ≠ none)) ∧
  (∀ (f : Format) (mode : RoundMode) (a b n : Bool) (m : Nat) (e e' : Int), m ≠ 0 →
    fpAdd mode (.inf a) (.inf (!a)) = .nan ∧ fpAdd mode (.inf a) (.inf a) = .inf a ∧
    fpMul (.inf a) (.fin b 0 e) = .nan ∧ fpMul (.fin b 0 e) (.inf a) = .nan ∧
    fpMul (.inf a) (.fin n m e) = .inf (a != n) ∧ fpMul (.fin n m e) (.inf a) = .inf (n != a) ∧
    fpMul (.inf a) (.inf b) = .inf (a != b) ∧
    fpDiv f (.inf a) (.inf b) = .nan ∧ fpDiv f (.fin a 0 e) (.fin b 0 e') = .nan ∧
    fpDiv f (.fin n m e) (.fin b 0 e') = .inf (n != b) ∧
    (∃ e1, fpDiv f (.fin a 0 e) (.fin n m e') = .fin (a != n) 0 e1) ∧
    fpSqrt f (.fin true m e) = .nan ∧ fpSqrt f (.fin a 0 e) = .fin a 0 e ∧ fpSqrt f (.inf true) = .nan ∧
    fpSqrt f (.inf false) = .inf false ∧
    fpCompare (.inf true) (.inf false) = .lt ∧ fpCompare (.inf false) (.inf true) = .gt ∧
    fpCompare (.inf a) (.inf a) = .eq ∧ fpNegate .nan = .nan ∧ fpNegate (.inf a) = .inf (!a)) ∧
  (∀ (f : Format) (mode : RoundMode) (a n : Bool) (m : Nat) (e : Int),
    fpAdd mode (.inf a) (.fin n m e) = .inf a ∧ fpAdd mode (.fin n m e) (.inf a) = .inf a ∧
    fpDiv f (.inf a) (.fin n m e) = .inf (a != n) ∧
    (∃ e1, fpDiv f (.fin n m e) (.inf a) = .fin (n != a) 0 e1) ∧
    fpCompare (.inf true) (.fin n m e) = .lt ∧ fpCompare (.inf false) (.fin n m e) = .gt ∧
    fpCompare (.fin n m e) (.inf true) = .gt ∧ fpCompare (.fin n m e) (.inf false) = .lt) ∧
  (∀ (op : FpOp) (a b : Word), f32 (nan32 op a b) = .nan ∧ f64 (nan64 op a b) = .nan)
end

