-- ==== Sys2Proof/Laws/Flags.lean ====
section
/-! SUPPORT. The bits and fields of Status, Cause and FCSR after each update. -/

namespace Sys2Proof.Machine

theorem getLsbD_withMask (w mask v : Word32) (i : Nat) :
    (withMask w mask v).getLsbD i = if mask.getLsbD i then v.getLsbD i else w.getLsbD i := by
  unfold withMask
  simp only [BitVec.getLsbD_or, BitVec.getLsbD_and, BitVec.getLsbD_not]
  by_cases h : i < 32
  · cases mask.getLsbD i <;> simp [h]
  · simp [BitVec.getLsbD_of_ge, Nat.not_lt.1 h]

theorem getLsbD_setBit (w : Word32) (n : Nat) (hn : n < 32) (b : Bool) (i : Nat) :
    (setBit w n b).getLsbD i = if i = n then b else w.getLsbD i := by
  unfold setBit
  rw [getLsbD_withMask]
  have h1 : (1#32 <<< n).getLsbD i = decide (i = n) := by
    rw [BitVec.getLsbD_shiftLeft]
    by_cases h : i = n
    · subst h; simp [hn]
    · by_cases hlt : i < n
      · simp [hlt, h]
      · have : i - n ≠ 0 := by omega
        simp [h, this]
  rw [h1]
  by_cases h : i = n
  · cases b <;> simp [h, hn]
  · simp [h]

/-- The bits of one register that a mask leaves, bit by bit. -/
theorem and_eq_of_getLsbD {w v m : Word32} (h : ∀ i, m.getLsbD i = true → w.getLsbD i = v.getLsbD i) :
    w &&& m = v &&& m := by
  apply BitVec.eq_of_getLsbD_eq
  intro i _
  rw [BitVec.getLsbD_and, BitVec.getLsbD_and]
  cases hm : m.getLsbD i
  · simp
  · simp [h i hm]

/-- 60_exceptions.md R710: every bit of Cause after exception entry. -/
theorem getLsbD_entry (w : Word32) (code : BitVec 5) (ce : BitVec 2) (bd : Bool) (i : Nat) :
    (Cause.entry w code ce bd).getLsbD i =
      if i = 31 then bd else if i = 28 ∨ i = 29 then ce.getLsbD (i - 28)
      else if 2 ≤ i ∧ i < 7 then code.getLsbD (i - 2) else w.getLsbD i := by
  unfold Cause.entry
  rw [getLsbD_withMask]
  by_cases h : i < 32
  · simp only [BitVec.getLsbD_append]
    interval_cases i <;> simp
  · rw [BitVec.getLsbD_of_ge _ _ (Nat.not_lt.1 h), if_neg (by simp), if_neg (by omega), if_neg (by omega),
      if_neg (by omega)]

theorem entry_code (w : Word32) (code : BitVec 5) (ce : BitVec 2) (bd : Bool) :
    (Cause.entry w code ce bd).extractLsb' 2 5 = code := by
  apply BitVec.eq_of_getLsbD_eq
  intro i hi
  rw [BitVec.getLsbD_extractLsb', getLsbD_entry, if_neg (by omega), if_neg (by omega), if_pos (by omega)]
  simp [hi]

theorem entry_ce (w : Word32) (code : BitVec 5) (ce : BitVec 2) (bd : Bool) :
    (Cause.entry w code ce bd).extractLsb' 28 2 = ce := by
  apply BitVec.eq_of_getLsbD_eq
  intro i hi
  rw [BitVec.getLsbD_extractLsb', getLsbD_entry, if_neg (by omega), if_pos (by omega)]
  simp [hi]

/-- What masked bits exception entry leaves. -/
theorem entry_and (w : Word32) (code : BitVec 5) (ce : BitVec 2) (bd : Bool) (m : Word32)
    (h : m &&& 0xB000007C#32 = 0#32) : Cause.entry w code ce bd &&& m = w &&& m := by
  refine and_eq_of_getLsbD fun i hi => ?_
  unfold Cause.entry
  rw [getLsbD_withMask, if_neg]
  intro hx
  have := congrArg (·.getLsbD i) h
  simp [BitVec.getLsbD_and, hi, hx] at this

theorem setBit_true (w : Word32) (n : Nat) (hn : n < 32) : setBit w n true = w ||| 1#32 <<< n := by
  apply BitVec.eq_of_getLsbD_eq
  intro i hi
  rw [getLsbD_setBit _ _ hn, BitVec.getLsbD_or, BitVec.getLsbD_shiftLeft]
  by_cases h : i = n
  · subst h; simp [hn]
  · by_cases hlt : i < n
    · simp [hlt, h]
    · have : i - n ≠ 0 := by omega
      simp [h, this]

theorem setBit_false (w : Word32) (n : Nat) : setBit w n false = w &&& ~~~(1#32 <<< n) := by
  unfold setBit withMask; simp

/-- What masked bits a change of one bit leaves. -/
theorem setBit_and (w : Word32) (n : Nat) (hn : n < 32) (b : Bool) (m : Word32) (h : m.getLsbD n = false) :
    setBit w n b &&& m = w &&& m := by
  refine and_eq_of_getLsbD fun i hi => ?_
  rw [getLsbD_setBit _ _ hn, if_neg]
  rintro rfl
  rw [h] at hi
  cases hi

end Sys2Proof.Machine
end

