-- ==== Sys2Proof/Laws/Memory.lean ====
section
/-! SUPPORT. The laws of byte memory: the canonical form is kept, a read after a write, equal bytes are equal data. -/

namespace Sys2Proof.Machine

theorem Memory.wf_nil : Memory.wf [] := by decide

theorem Memory.wf_tail {c : Host.Cell} {m : Memory} (h : Memory.wf (c :: m)) : Memory.wf m :=
  ⟨(List.pairwise_cons.1 h.1).2, fun d hd => h.2 d (List.mem_cons_of_mem _ hd)⟩

theorem Memory.wf_cons {c : Host.Cell} {m : Memory} (hm : Memory.wf m) (hc : c.2 ≠ Memory.blank)
    (hlt : ∀ d ∈ m, c.1 < d.1) : Memory.wf (c :: m) := by
  refine ⟨List.pairwise_cons.2 ⟨hlt, hm.1⟩, fun d hd => ?_⟩
  rcases List.mem_cons.1 hd with rfl | hd
  · exact hc
  · exact hm.2 d hd

theorem Memory.wf_head_lt {c : Host.Cell} {m : Memory} (h : Memory.wf (c :: m)) : ∀ d ∈ m, c.1 < d.1 :=
  (List.pairwise_cons.1 h.1).1

/-- An address below every listed one reads as blank. -/
theorem Memory.byte_of_lt (m : Memory) (k : Nat) (h : ∀ d ∈ m, k < d.1) : Memory.byte m k = Memory.blank := by
  induction m with
  | nil => rfl
  | cons c m ih =>
    have hk := h c (List.mem_cons_self ..)
    obtain ⟨a, b⟩ := c
    have hne : k ≠ a := by simp at hk; omega
    simp only [Memory.byte, hne, if_false]
    exact ih fun d hd => h d (List.mem_cons_of_mem _ hd)

/-- What is listed after a store. -/
theorem Memory.mem_set {m : Memory} {k : Nat} {v : Byte} {d : Host.Cell} (h : d ∈ Memory.set m k v) :
    d = (k, v) ∨ d ∈ m := by
  induction m with
  | nil =>
    unfold Memory.set at h
    split at h
    · simp at h
    · simpa using h
  | cons c m ih =>
    obtain ⟨a, b⟩ := c
    unfold Memory.set at h
    split at h
    · split at h
      · exact .inr h
      · rcases List.mem_cons.1 h with h | h
        · exact .inl h
        · exact .inr h
    · split at h
      · split at h
        · exact .inr (List.mem_cons_of_mem _ h)
        · rcases List.mem_cons.1 h with h | h
          · exact .inl h
          · exact .inr (List.mem_cons_of_mem _ h)
      · rcases List.mem_cons.1 h with h | h
        · exact .inr (h ▸ List.mem_cons_self ..)
        · rcases ih h with h | h
          · exact .inl h
          · exact .inr (List.mem_cons_of_mem _ h)

/-- A store keeps the canonical form. -/
theorem Memory.wf_set {m : Memory} (k : Nat) (v : Byte) (hm : Memory.wf m) : Memory.wf (Memory.set m k v) := by
  induction m with
  | nil =>
    unfold Memory.set
    split
    · exact Memory.wf_nil
    · exact Memory.wf_cons Memory.wf_nil ‹_› (by simp)
  | cons c m ih =>
    obtain ⟨a, b⟩ := c
    have ht := Memory.wf_tail hm
    have hlt := Memory.wf_head_lt hm
    unfold Memory.set
    split
    · split
      · exact hm
      · refine Memory.wf_cons hm ‹_› fun d hd => ?_
        rcases List.mem_cons.1 hd with rfl | hd
        · assumption
        · have := hlt d hd
          simp at this ⊢
          omega
    · split
      · split
        · exact ht
        · refine Memory.wf_cons ht ‹_› fun d hd => ?_
          have := hlt d hd
          simp at this ⊢
          omega
      · refine Memory.wf_cons (ih ht) (hm.2 _ (List.mem_cons_self ..)) fun d hd => ?_
        rcases Memory.mem_set hd with rfl | hd
        · simp; omega
        · exact hlt d hd

/-- A read after a store. -/
theorem Memory.byte_set {m : Memory} (k : Nat) (v : Byte) (hm : Memory.wf m) (q : Nat) :
    Memory.byte (Memory.set m k v) q = if q = k then v else Memory.byte m q := by
  induction m with
  | nil =>
    unfold Memory.set
    by_cases hv : v = Memory.blank
    · simp [hv, Memory.byte]
    · simp [hv, Memory.byte]
  | cons c m ih =>
    obtain ⟨a, b⟩ := c
    have ht := Memory.wf_tail hm
    have hlt := Memory.wf_head_lt hm
    unfold Memory.set
    split
    · rename_i hka
      split
      · rename_i hv
        split
        · rename_i hq
          subst hq
          rw [hv]
          refine Memory.byte_of_lt _ _ fun d hd => ?_
          rcases List.mem_cons.1 hd with rfl | hd
          · exact hka
          · have := hlt d hd
            simp at this
            omega
        · rfl
      · simp [Memory.byte]
    · split
      · rename_i hka
        subst hka
        split
        · rename_i hv
          by_cases hq : q = k
          · subst hq
            simp only [if_true]
            rw [hv]
            exact Memory.byte_of_lt _ _ hlt
          · simp [Memory.byte, hq]
        · by_cases hq : q = k <;> simp [Memory.byte, hq]
      · rename_i h1 h2
        simp only [Memory.byte]
        by_cases hqa : q = a
        · subst hqa
          simp [Ne.symm h2]
        · simp [hqa, ih ht]

theorem Memory.wf_writeBE {m : Memory} (a n : Nat) (v : Word) (hm : Memory.wf m) :
    Memory.wf (Memory.writeBE m a n v) := by
  induction n generalizing v with
  | zero => exact hm
  | succ n ih => exact Memory.wf_set _ _ (ih _)

theorem Memory.wf_setAll {m : Memory} (cells : List (Nat × Byte)) (hm : Memory.wf m) :
    Memory.wf (Memory.setAll m cells) := by
  unfold Memory.setAll
  induction cells generalizing m with
  | nil => exact hm
  | cons c cells ih => exact ih (Memory.wf_set _ _ hm)

/-- R171: each byte of a value written big-endian, and every other byte as before. -/
theorem Memory.byte_writeBE {m : Memory} (a n : Nat) (v : Word) (hm : Memory.wf m) (q : Nat) :
    Memory.byte (Memory.writeBE m a n v) q
      = if a ≤ q ∧ q < a + n then byteBE n (q - a) v else Memory.byte m q := by
  induction n generalizing v with
  | zero => simp [Memory.writeBE]
  | succ n ih =>
    unfold Memory.writeBE
    rw [Memory.byte_set _ _ (Memory.wf_writeBE _ _ _ hm), ih]
    by_cases h : q = a + n
    · subst h
      simp [byteBE]
      apply BitVec.eq_of_getLsbD_eq
      intro i hi
      simp [hi]
    · simp only [h, if_false]
      by_cases h2 : a ≤ q ∧ q < a + n
      · have h3 : a ≤ q ∧ q < a + (n + 1) := by omega
        rw [if_pos h2, if_pos h3]
        unfold byteBE
        apply BitVec.eq_of_getLsbD_eq
        intro i hi
        have : 8 * (n + 1 - 1 - (q - a)) = 8 + 8 * (n - 1 - (q - a)) := by omega
        simp [hi]
        congr 1
        omega
      · have h3 : ¬ (a ≤ q ∧ q < a + (n + 1)) := by omega
        rw [if_neg h2, if_neg h3]

/-- Outside the bytes written nothing changes. -/
theorem Memory.byte_writeBE_other {m : Memory} (a n : Nat) (v : Word) (hm : Memory.wf m) (q : Nat)
    (h : ¬ (a ≤ q ∧ q < a + n)) : Memory.byte (Memory.writeBE m a n v) q = Memory.byte m q := by
  rw [Memory.byte_writeBE _ _ _ hm, if_neg h]

/-- The bits of a value read big-endian. -/
theorem getLsbD_bytesBE (f : Nat → Byte) (a n : Nat) (hn : n ≤ 8) (i : Nat) :
    (bytesBE f a n).getLsbD i = (decide (i < 8 * n) && (f (a + (n - 1 - i / 8))).getLsbD (i % 8)) := by
  induction n generalizing i with
  | zero => simp [bytesBE]
  | succ n ih =>
    unfold bytesBE
    simp only [BitVec.getLsbD_or, BitVec.getLsbD_shiftLeft, BitVec.getLsbD_setWidth, ih (by omega)]
    by_cases h : i < 8
    · have h0 : i / 8 = 0 := by omega
      have h1 : i % 8 = i := by omega
      have h2 : i < 64 := by omega
      have h3 : i < 8 * (n + 1) := by omega
      simp [h, h0, h1, h2, h3]
    · have h1 : (i - 8) % 8 = i % 8 := by omega
      have h2 : (i - 8) / 8 = i / 8 - 1 := by omega
      have h4 : (f (a + n)).getLsbD i = false := BitVec.getLsbD_of_ge _ _ (by omega)
      by_cases h5 : i < 8 * (n + 1)
      · have h6 : i - 8 < 8 * n := by omega
        have h7 : i < 64 := by omega
        have h8 : n - 1 - (i / 8 - 1) = n + 1 - 1 - i / 8 := by omega
        simp [h, h1, h2, h4, h5, h6, h7]
        congr 2
        omega
      · have h6 : ¬ i - 8 < 8 * n := by omega
        simp [h4, h5, h6]

/-- R171: each byte of a value read big-endian. -/
theorem byte_bytesBE (f : Nat → Byte) (a n k : Nat) (hn : n ≤ 8) (hk : k < n) :
    (bytesBE f a n).extractLsb' (8 * (n - 1 - k)) 8 = f (a + k) := by
  apply BitVec.eq_of_getLsbD_eq
  intro i hi
  rw [BitVec.getLsbD_extractLsb', getLsbD_bytesBE _ _ _ hn]
  have h1 : 8 * (n - 1 - k) + i < 8 * n := by omega
  have h2 : (8 * (n - 1 - k) + i) / 8 = n - 1 - k := by omega
  have h3 : (8 * (n - 1 - k) + i) % 8 = i := by omega
  have h4 : n - 1 - (n - 1 - k) = k := by omega
  simp [hi, h1, h2, h3, h4]

/-- Reads of the same bytes give the same value. -/
theorem bytesBE_congr (f g : Nat → Byte) (a n : Nat) (h : ∀ k, k < n → f (a + k) = g (a + k)) :
    bytesBE f a n = bytesBE g a n := by
  induction n with
  | zero => rfl
  | succ n ih =>
    unfold bytesBE
    rw [ih fun k hk => h k (by omega), h n (by omega)]

theorem getLsbD_lowBytes (n : Nat) (hn : n ≤ 8) (v : Word) (i : Nat) :
    (lowBytes n v).getLsbD i = (decide (i < 8 * n) && v.getLsbD i) := by
  unfold lowBytes
  have : (BitVec.ofNat 64 (2 ^ (8 * n) - 1)).getLsbD i = decide (i < 8 * n ∧ i < 64) := by
    rw [BitVec.getLsbD_ofNat, Nat.testBit_two_pow_sub_one]
    by_cases h : i < 64 <;> simp [h]
  rw [BitVec.getLsbD_and, this]
  by_cases h : i < 8 * n
  · have : i < 64 := by omega
    simp [h, this]
  · simp [h]

/-- R162, R171: a read of what was written there. -/
theorem Memory.readBE_writeBE {m : Memory} (a n : Nat) (v : Word) (hm : Memory.wf m) (hn : n ≤ 8) :
    Memory.readBE (Memory.writeBE m a n v) a n = lowBytes n v := by
  apply BitVec.eq_of_getLsbD_eq
  intro i _
  unfold Memory.readBE
  rw [getLsbD_bytesBE _ _ _ hn, getLsbD_lowBytes _ hn, Memory.byte_writeBE _ _ _ hm]
  by_cases h : i < 8 * n
  · have h1 : a ≤ a + (n - 1 - i / 8) ∧ a + (n - 1 - i / 8) < a + n := by omega
    have h2 : i % 8 < 8 := by omega
    have h3 : 8 * (n - 1 - (n - 1 - i / 8)) + i % 8 = i := by omega
    rw [if_pos h1]
    simp [h, byteBE, h2, h3]
  · simp [h]

/-- A read away from what was written. -/
theorem Memory.readBE_writeBE_other {m : Memory} (a n b k : Nat) (v : Word) (hm : Memory.wf m)
    (h : b + k ≤ a ∨ a + n ≤ b) : Memory.readBE (Memory.writeBE m a n v) b k = Memory.readBE m b k := by
  unfold Memory.readBE
  refine bytesBE_congr _ _ _ _ fun j hj => ?_
  exact Memory.byte_writeBE_other _ _ _ hm _ (by omega)

/-- The canonical form: memories with equal bytes are equal. -/
theorem Memory.ext {m k : Memory} (hm : Memory.wf m) (hk : Memory.wf k)
    (h : ∀ a, Memory.byte m a = Memory.byte k a) : m = k := by
  induction m generalizing k with
  | nil =>
    cases k with
    | nil => rfl
    | cons c k =>
      obtain ⟨a, b⟩ := c
      have := h a
      simp [Memory.byte] at this
      exact absurd this.symm (hk.2 _ (List.mem_cons_self ..))
  | cons c m ih =>
    obtain ⟨a, b⟩ := c
    cases k with
    | nil =>
      have := h a
      simp [Memory.byte] at this
      exact absurd this (hm.2 _ (List.mem_cons_self ..))
    | cons d k =>
      obtain ⟨a', b'⟩ := d
      have hb := hm.2 (a, b) (List.mem_cons_self ..)
      have hb' := hk.2 (a', b') (List.mem_cons_self ..)
      have haa : a = a' := by
        rcases Nat.lt_trichotomy a a' with hlt | heq | hgt
        · have h1 := h a
          rw [Memory.byte_of_lt ((a', b') :: k) a] at h1
          · simp [Memory.byte] at h1
            exact absurd h1 hb
          · intro d hd
            rcases List.mem_cons.1 hd with rfl | hd
            · exact hlt
            · exact Nat.lt_trans hlt (Memory.wf_head_lt hk d hd)
        · exact heq
        · have h1 := h a'
          rw [Memory.byte_of_lt ((a, b) :: m) a'] at h1
          · simp [Memory.byte] at h1
            exact absurd h1.symm hb'
          · intro d hd
            rcases List.mem_cons.1 hd with rfl | hd
            · exact hgt
            · exact Nat.lt_trans hgt (Memory.wf_head_lt hm d hd)
      subst haa
      have hbb : b = b' := by simpa [Memory.byte] using h a
      subst hbb
      have : m = k := by
        refine ih (Memory.wf_tail hm) (Memory.wf_tail hk) fun q => ?_
        have hq := h q
        by_cases hqa : q = a
        · subst hqa
          rw [Memory.byte_of_lt m q (Memory.wf_head_lt hm), Memory.byte_of_lt k q (Memory.wf_head_lt hk)]
        · simpa [Memory.byte, hqa] using hq
      rw [this]

/-! ### The devices' register blocks -/

theorem DeviceId.index_injective (a b : DeviceId) : a.index = b.index → a = b := by
  cases a <;> cases b <;> decide

/-- A register byte changes the block of its device and no other. -/
theorem Blocks.get_setReg (bs : Blocks) (r : RegByte) (id : DeviceId) :
    (bs.setReg r).get id = if id = r.id then (bs.get id).set r.off r.val else bs.get id := by
  unfold Blocks.setReg
  by_cases h : id = r.id
  · subst h; simp [Blocks.get]
  · have : (r.id.index : Nat) ≠ id.index := fun e => h (DeviceId.index_injective _ _ (Fin.ext e.symm))
    simp only [Blocks.get, if_neg h]
    exact Vector.getElem_set_ne _ _ this

theorem Blocks.wf_setRegs {bs : Blocks} (l : List RegByte) (h : ∀ id, (bs.get id).wf) (id : DeviceId) :
    ((bs.setRegs l).get id).wf := by
  induction l generalizing bs with
  | nil => exact h id
  | cons r l ih =>
    refine ih fun id' => ?_
    rw [Blocks.get_setReg]
    split
    · exact Memory.wf_set _ _ (h id')
    · exact h id'

/-- A byte of a block after register changes that leave it alone. -/
theorem Blocks.byte_setRegs_other {bs : Blocks} (l : List RegByte) (h : ∀ id, (bs.get id).wf) (id : DeviceId)
    (o : Nat) (hl : ∀ r ∈ l, ¬ (r.id = id ∧ r.off = o)) : ((bs.setRegs l).get id).byte o = (bs.get id).byte o := by
  induction l generalizing bs with
  | nil => rfl
  | cons r l ih =>
    have hw : ∀ id', ((bs.setReg r).get id').wf := fun id' => Blocks.wf_setRegs [r] h id'
    refine (ih hw fun q hq => hl q (List.mem_cons_of_mem _ hq)).trans ?_
    rw [Blocks.get_setReg]
    split
    · rw [Memory.byte_set _ _ (h id), if_neg]
      exact fun e => hl r List.mem_cons_self ⟨Eq.symm ‹_›, e.symm⟩
    · rfl

/-- A byte of a block after register changes of which every one there puts the same byte. -/
theorem Blocks.byte_setRegs {bs : Blocks} (l : List RegByte) (h : ∀ id, (bs.get id).wf) (id : DeviceId) (o : Nat)
    (b : Byte) (hl : ∀ r ∈ l, r.id = id → r.off = o → r.val = b) (hx : ∃ r ∈ l, r.id = id ∧ r.off = o) :
    ((bs.setRegs l).get id).byte o = b := by
  induction l generalizing bs with
  | nil => simp at hx
  | cons r l ih =>
    have hw : ∀ id', ((bs.setReg r).get id').wf := fun id' => Blocks.wf_setRegs [r] h id'
    by_cases hl' : ∃ r ∈ l, r.id = id ∧ r.off = o
    · exact ih hw (fun q hq => hl q (List.mem_cons_of_mem _ hq)) hl'
    · refine (Blocks.byte_setRegs_other l hw id o fun q hq hc => hl' ⟨q, hq, hc⟩).trans ?_
      obtain ⟨q, hq, rfl, rfl⟩ := hx
      rcases List.mem_cons.1 hq with rfl | hq
      · rw [Blocks.get_setReg, if_pos rfl, Memory.byte_set _ _ (h _), if_pos rfl]
        exact hl _ List.mem_cons_self rfl rfl
      · exact absurd ⟨q, hq, rfl, rfl⟩ hl'

theorem Blocks.setRegs_append (bs : Blocks) (l k : List RegByte) :
    bs.setRegs (l ++ k) = (bs.setRegs l).setRegs k := List.foldl_append

end Sys2Proof.Machine
end

