-- ==== Sys2Proof/Laws/State.lean ====
section
/-! SUPPORT. What each update of State leaves, field by field, and what an accessor reads after an update. -/

namespace Sys2Proof.Machine

/-! ### State.setGpr -/

@[simp] theorem setGpr_hi (s : State) (r : Reg) (v : Word) : (s.setGpr r v).hi = s.hi := rfl
@[simp] theorem setGpr_lo (s : State) (r : Reg) (v : Word) : (s.setGpr r v).lo = s.lo := rfl
@[simp] theorem setGpr_pc (s : State) (r : Reg) (v : Word) : (s.setGpr r v).pc = s.pc := rfl
@[simp] theorem setGpr_pending (s : State) (r : Reg) (v : Word) : (s.setGpr r v).pending = s.pending := rfl
@[simp] theorem setGpr_cp0 (s : State) (r : Reg) (v : Word) : (s.setGpr r v).cp0 = s.cp0 := rfl
@[simp] theorem setGpr_ticks (s : State) (r : Reg) (v : Word) : (s.setGpr r v).ticks = s.ticks := rfl
@[simp] theorem setGpr_slots (s : State) (r : Reg) (v : Word) : (s.setGpr r v).slots = s.slots := rfl
@[simp] theorem setGpr_fcr31 (s : State) (r : Reg) (v : Word) : (s.setGpr r v).fcr31 = s.fcr31 := rfl
@[simp] theorem setGpr_llbit (s : State) (r : Reg) (v : Word) : (s.setGpr r v).llbit = s.llbit := rfl
@[simp] theorem setGpr_halted (s : State) (r : Reg) (v : Word) : (s.setGpr r v).halted = s.halted := rfl
@[simp] theorem setGpr_mem (s : State) (r : Reg) (v : Word) : (s.setGpr r v).mem = s.mem := rfl
@[simp] theorem setGpr_rom (s : State) (r : Reg) (v : Word) : (s.setGpr r v).rom = s.rom := rfl
@[simp] theorem setGpr_blocks (s : State) (r : Reg) (v : Word) : (s.setGpr r v).blocks = s.blocks := rfl
@[simp] theorem setGpr_miIntr (s : State) (r : Reg) (v : Word) : (s.setGpr r v).miIntr = s.miIntr := rfl
@[simp] theorem setGpr_miMask (s : State) (r : Reg) (v : Word) : (s.setGpr r v).miMask = s.miMask := rfl
@[simp] theorem setGpr_env (s : State) (r : Reg) (v : Word) : (s.setGpr r v).env = s.env := rfl
@[simp] theorem setGpr_draws (s : State) (r : Reg) (v : Word) : (s.setGpr r v).draws = s.draws := rfl
@[simp] theorem setGpr_params (s : State) (r : Reg) (v : Word) : (s.setGpr r v).params = s.params := rfl

/-! ### State.setHi -/

@[simp] theorem setHi_regs (s : State) (v : Word) : (s.setHi v).regs = s.regs := rfl
@[simp] theorem setHi_lo (s : State) (v : Word) : (s.setHi v).lo = s.lo := rfl
@[simp] theorem setHi_pc (s : State) (v : Word) : (s.setHi v).pc = s.pc := rfl
@[simp] theorem setHi_pending (s : State) (v : Word) : (s.setHi v).pending = s.pending := rfl
@[simp] theorem setHi_cp0 (s : State) (v : Word) : (s.setHi v).cp0 = s.cp0 := rfl
@[simp] theorem setHi_ticks (s : State) (v : Word) : (s.setHi v).ticks = s.ticks := rfl
@[simp] theorem setHi_slots (s : State) (v : Word) : (s.setHi v).slots = s.slots := rfl
@[simp] theorem setHi_fcr31 (s : State) (v : Word) : (s.setHi v).fcr31 = s.fcr31 := rfl
@[simp] theorem setHi_llbit (s : State) (v : Word) : (s.setHi v).llbit = s.llbit := rfl
@[simp] theorem setHi_halted (s : State) (v : Word) : (s.setHi v).halted = s.halted := rfl
@[simp] theorem setHi_mem (s : State) (v : Word) : (s.setHi v).mem = s.mem := rfl
@[simp] theorem setHi_rom (s : State) (v : Word) : (s.setHi v).rom = s.rom := rfl
@[simp] theorem setHi_blocks (s : State) (v : Word) : (s.setHi v).blocks = s.blocks := rfl
@[simp] theorem setHi_miIntr (s : State) (v : Word) : (s.setHi v).miIntr = s.miIntr := rfl
@[simp] theorem setHi_miMask (s : State) (v : Word) : (s.setHi v).miMask = s.miMask := rfl
@[simp] theorem setHi_env (s : State) (v : Word) : (s.setHi v).env = s.env := rfl
@[simp] theorem setHi_draws (s : State) (v : Word) : (s.setHi v).draws = s.draws := rfl
@[simp] theorem setHi_params (s : State) (v : Word) : (s.setHi v).params = s.params := rfl
@[simp] theorem setHi_hi (s : State) (v : Word) :
    (s.setHi v).hi = HiLo.trunc s.params.hiloWidth v := rfl

/-! ### State.setLo -/

@[simp] theorem setLo_regs (s : State) (v : Word) : (s.setLo v).regs = s.regs := rfl
@[simp] theorem setLo_hi (s : State) (v : Word) : (s.setLo v).hi = s.hi := rfl
@[simp] theorem setLo_pc (s : State) (v : Word) : (s.setLo v).pc = s.pc := rfl
@[simp] theorem setLo_pending (s : State) (v : Word) : (s.setLo v).pending = s.pending := rfl
@[simp] theorem setLo_cp0 (s : State) (v : Word) : (s.setLo v).cp0 = s.cp0 := rfl
@[simp] theorem setLo_ticks (s : State) (v : Word) : (s.setLo v).ticks = s.ticks := rfl
@[simp] theorem setLo_slots (s : State) (v : Word) : (s.setLo v).slots = s.slots := rfl
@[simp] theorem setLo_fcr31 (s : State) (v : Word) : (s.setLo v).fcr31 = s.fcr31 := rfl
@[simp] theorem setLo_llbit (s : State) (v : Word) : (s.setLo v).llbit = s.llbit := rfl
@[simp] theorem setLo_halted (s : State) (v : Word) : (s.setLo v).halted = s.halted := rfl
@[simp] theorem setLo_mem (s : State) (v : Word) : (s.setLo v).mem = s.mem := rfl
@[simp] theorem setLo_rom (s : State) (v : Word) : (s.setLo v).rom = s.rom := rfl
@[simp] theorem setLo_blocks (s : State) (v : Word) : (s.setLo v).blocks = s.blocks := rfl
@[simp] theorem setLo_miIntr (s : State) (v : Word) : (s.setLo v).miIntr = s.miIntr := rfl
@[simp] theorem setLo_miMask (s : State) (v : Word) : (s.setLo v).miMask = s.miMask := rfl
@[simp] theorem setLo_env (s : State) (v : Word) : (s.setLo v).env = s.env := rfl
@[simp] theorem setLo_draws (s : State) (v : Word) : (s.setLo v).draws = s.draws := rfl
@[simp] theorem setLo_params (s : State) (v : Word) : (s.setLo v).params = s.params := rfl
@[simp] theorem setLo_lo (s : State) (v : Word) :
    (s.setLo v).lo = HiLo.trunc s.params.hiloWidth v := rfl

/-! ### State.setHiLo -/

@[simp] theorem setHiLo_regs (s : State) (h l : Word) : (s.setHiLo h l).regs = s.regs := rfl
@[simp] theorem setHiLo_pc (s : State) (h l : Word) : (s.setHiLo h l).pc = s.pc := rfl
@[simp] theorem setHiLo_pending (s : State) (h l : Word) : (s.setHiLo h l).pending = s.pending := rfl
@[simp] theorem setHiLo_cp0 (s : State) (h l : Word) : (s.setHiLo h l).cp0 = s.cp0 := rfl
@[simp] theorem setHiLo_ticks (s : State) (h l : Word) : (s.setHiLo h l).ticks = s.ticks := rfl
@[simp] theorem setHiLo_slots (s : State) (h l : Word) : (s.setHiLo h l).slots = s.slots := rfl
@[simp] theorem setHiLo_fcr31 (s : State) (h l : Word) : (s.setHiLo h l).fcr31 = s.fcr31 := rfl
@[simp] theorem setHiLo_llbit (s : State) (h l : Word) : (s.setHiLo h l).llbit = s.llbit := rfl
@[simp] theorem setHiLo_halted (s : State) (h l : Word) : (s.setHiLo h l).halted = s.halted := rfl
@[simp] theorem setHiLo_mem (s : State) (h l : Word) : (s.setHiLo h l).mem = s.mem := rfl
@[simp] theorem setHiLo_rom (s : State) (h l : Word) : (s.setHiLo h l).rom = s.rom := rfl
@[simp] theorem setHiLo_blocks (s : State) (h l : Word) : (s.setHiLo h l).blocks = s.blocks := rfl
@[simp] theorem setHiLo_miIntr (s : State) (h l : Word) : (s.setHiLo h l).miIntr = s.miIntr := rfl
@[simp] theorem setHiLo_miMask (s : State) (h l : Word) : (s.setHiLo h l).miMask = s.miMask := rfl
@[simp] theorem setHiLo_env (s : State) (h l : Word) : (s.setHiLo h l).env = s.env := rfl
@[simp] theorem setHiLo_draws (s : State) (h l : Word) : (s.setHiLo h l).draws = s.draws := rfl
@[simp] theorem setHiLo_params (s : State) (h l : Word) : (s.setHiLo h l).params = s.params := rfl
@[simp] theorem setHiLo_hi (s : State) (h l : Word) :
    (s.setHiLo h l).hi = HiLo.trunc s.params.hiloWidth h := rfl
@[simp] theorem setHiLo_lo (s : State) (h l : Word) :
    (s.setHiLo h l).lo = HiLo.trunc s.params.hiloWidth l := rfl

/-! ### State.setCop0 -/

@[simp] theorem setCop0_regs (s : State) (r : Reg) (v : Word32) : (s.setCop0 r v).regs = s.regs := rfl
@[simp] theorem setCop0_hi (s : State) (r : Reg) (v : Word32) : (s.setCop0 r v).hi = s.hi := rfl
@[simp] theorem setCop0_lo (s : State) (r : Reg) (v : Word32) : (s.setCop0 r v).lo = s.lo := rfl
@[simp] theorem setCop0_pc (s : State) (r : Reg) (v : Word32) : (s.setCop0 r v).pc = s.pc := rfl
@[simp] theorem setCop0_pending (s : State) (r : Reg) (v : Word32) : (s.setCop0 r v).pending = s.pending := rfl
@[simp] theorem setCop0_ticks (s : State) (r : Reg) (v : Word32) : (s.setCop0 r v).ticks = s.ticks := rfl
@[simp] theorem setCop0_slots (s : State) (r : Reg) (v : Word32) : (s.setCop0 r v).slots = s.slots := rfl
@[simp] theorem setCop0_fcr31 (s : State) (r : Reg) (v : Word32) : (s.setCop0 r v).fcr31 = s.fcr31 := rfl
@[simp] theorem setCop0_llbit (s : State) (r : Reg) (v : Word32) : (s.setCop0 r v).llbit = s.llbit := rfl
@[simp] theorem setCop0_halted (s : State) (r : Reg) (v : Word32) : (s.setCop0 r v).halted = s.halted := rfl
@[simp] theorem setCop0_mem (s : State) (r : Reg) (v : Word32) : (s.setCop0 r v).mem = s.mem := rfl
@[simp] theorem setCop0_rom (s : State) (r : Reg) (v : Word32) : (s.setCop0 r v).rom = s.rom := rfl
@[simp] theorem setCop0_blocks (s : State) (r : Reg) (v : Word32) : (s.setCop0 r v).blocks = s.blocks := rfl
@[simp] theorem setCop0_miIntr (s : State) (r : Reg) (v : Word32) : (s.setCop0 r v).miIntr = s.miIntr := rfl
@[simp] theorem setCop0_miMask (s : State) (r : Reg) (v : Word32) : (s.setCop0 r v).miMask = s.miMask := rfl
@[simp] theorem setCop0_env (s : State) (r : Reg) (v : Word32) : (s.setCop0 r v).env = s.env := rfl
@[simp] theorem setCop0_draws (s : State) (r : Reg) (v : Word32) : (s.setCop0 r v).draws = s.draws := rfl
@[simp] theorem setCop0_params (s : State) (r : Reg) (v : Word32) : (s.setCop0 r v).params = s.params := rfl

/-! ### State.setSlot -/

@[simp] theorem setSlot_regs (s : State) (n : Reg) (v : Word) : (s.setSlot n v).regs = s.regs := rfl
@[simp] theorem setSlot_hi (s : State) (n : Reg) (v : Word) : (s.setSlot n v).hi = s.hi := rfl
@[simp] theorem setSlot_lo (s : State) (n : Reg) (v : Word) : (s.setSlot n v).lo = s.lo := rfl
@[simp] theorem setSlot_pc (s : State) (n : Reg) (v : Word) : (s.setSlot n v).pc = s.pc := rfl
@[simp] theorem setSlot_pending (s : State) (n : Reg) (v : Word) : (s.setSlot n v).pending = s.pending := rfl
@[simp] theorem setSlot_cp0 (s : State) (n : Reg) (v : Word) : (s.setSlot n v).cp0 = s.cp0 := rfl
@[simp] theorem setSlot_ticks (s : State) (n : Reg) (v : Word) : (s.setSlot n v).ticks = s.ticks := rfl
@[simp] theorem setSlot_fcr31 (s : State) (n : Reg) (v : Word) : (s.setSlot n v).fcr31 = s.fcr31 := rfl
@[simp] theorem setSlot_llbit (s : State) (n : Reg) (v : Word) : (s.setSlot n v).llbit = s.llbit := rfl
@[simp] theorem setSlot_halted (s : State) (n : Reg) (v : Word) : (s.setSlot n v).halted = s.halted := rfl
@[simp] theorem setSlot_mem (s : State) (n : Reg) (v : Word) : (s.setSlot n v).mem = s.mem := rfl
@[simp] theorem setSlot_rom (s : State) (n : Reg) (v : Word) : (s.setSlot n v).rom = s.rom := rfl
@[simp] theorem setSlot_blocks (s : State) (n : Reg) (v : Word) : (s.setSlot n v).blocks = s.blocks := rfl
@[simp] theorem setSlot_miIntr (s : State) (n : Reg) (v : Word) : (s.setSlot n v).miIntr = s.miIntr := rfl
@[simp] theorem setSlot_miMask (s : State) (n : Reg) (v : Word) : (s.setSlot n v).miMask = s.miMask := rfl
@[simp] theorem setSlot_env (s : State) (n : Reg) (v : Word) : (s.setSlot n v).env = s.env := rfl
@[simp] theorem setSlot_draws (s : State) (n : Reg) (v : Word) : (s.setSlot n v).draws = s.draws := rfl
@[simp] theorem setSlot_params (s : State) (n : Reg) (v : Word) : (s.setSlot n v).params = s.params := rfl

/-! ### State.setFpr32 -/

@[simp] theorem setFpr32_regs (s : State) (n : Reg) (v : Word32) : (s.setFpr32 n v).regs = s.regs := rfl
@[simp] theorem setFpr32_hi (s : State) (n : Reg) (v : Word32) : (s.setFpr32 n v).hi = s.hi := rfl
@[simp] theorem setFpr32_lo (s : State) (n : Reg) (v : Word32) : (s.setFpr32 n v).lo = s.lo := rfl
@[simp] theorem setFpr32_pc (s : State) (n : Reg) (v : Word32) : (s.setFpr32 n v).pc = s.pc := rfl
@[simp] theorem setFpr32_pending (s : State) (n : Reg) (v : Word32) : (s.setFpr32 n v).pending = s.pending := rfl
@[simp] theorem setFpr32_cp0 (s : State) (n : Reg) (v : Word32) : (s.setFpr32 n v).cp0 = s.cp0 := rfl
@[simp] theorem setFpr32_ticks (s : State) (n : Reg) (v : Word32) : (s.setFpr32 n v).ticks = s.ticks := rfl
@[simp] theorem setFpr32_fcr31 (s : State) (n : Reg) (v : Word32) : (s.setFpr32 n v).fcr31 = s.fcr31 := rfl
@[simp] theorem setFpr32_llbit (s : State) (n : Reg) (v : Word32) : (s.setFpr32 n v).llbit = s.llbit := rfl
@[simp] theorem setFpr32_halted (s : State) (n : Reg) (v : Word32) : (s.setFpr32 n v).halted = s.halted := rfl
@[simp] theorem setFpr32_mem (s : State) (n : Reg) (v : Word32) : (s.setFpr32 n v).mem = s.mem := rfl
@[simp] theorem setFpr32_rom (s : State) (n : Reg) (v : Word32) : (s.setFpr32 n v).rom = s.rom := rfl
@[simp] theorem setFpr32_blocks (s : State) (n : Reg) (v : Word32) : (s.setFpr32 n v).blocks = s.blocks := rfl
@[simp] theorem setFpr32_miIntr (s : State) (n : Reg) (v : Word32) : (s.setFpr32 n v).miIntr = s.miIntr := rfl
@[simp] theorem setFpr32_miMask (s : State) (n : Reg) (v : Word32) : (s.setFpr32 n v).miMask = s.miMask := rfl
@[simp] theorem setFpr32_env (s : State) (n : Reg) (v : Word32) : (s.setFpr32 n v).env = s.env := rfl
@[simp] theorem setFpr32_draws (s : State) (n : Reg) (v : Word32) : (s.setFpr32 n v).draws = s.draws := rfl
@[simp] theorem setFpr32_params (s : State) (n : Reg) (v : Word32) : (s.setFpr32 n v).params = s.params := rfl

/-! ### syncAggregate -/

@[simp] theorem syncAggregate_regs (s : State) : (syncAggregate s).regs = s.regs := rfl
@[simp] theorem syncAggregate_hi (s : State) : (syncAggregate s).hi = s.hi := rfl
@[simp] theorem syncAggregate_lo (s : State) : (syncAggregate s).lo = s.lo := rfl
@[simp] theorem syncAggregate_pc (s : State) : (syncAggregate s).pc = s.pc := rfl
@[simp] theorem syncAggregate_pending (s : State) : (syncAggregate s).pending = s.pending := rfl
@[simp] theorem syncAggregate_ticks (s : State) : (syncAggregate s).ticks = s.ticks := rfl
@[simp] theorem syncAggregate_slots (s : State) : (syncAggregate s).slots = s.slots := rfl
@[simp] theorem syncAggregate_fcr31 (s : State) : (syncAggregate s).fcr31 = s.fcr31 := rfl
@[simp] theorem syncAggregate_llbit (s : State) : (syncAggregate s).llbit = s.llbit := rfl
@[simp] theorem syncAggregate_halted (s : State) : (syncAggregate s).halted = s.halted := rfl
@[simp] theorem syncAggregate_mem (s : State) : (syncAggregate s).mem = s.mem := rfl
@[simp] theorem syncAggregate_rom (s : State) : (syncAggregate s).rom = s.rom := rfl
@[simp] theorem syncAggregate_blocks (s : State) : (syncAggregate s).blocks = s.blocks := rfl
@[simp] theorem syncAggregate_miIntr (s : State) : (syncAggregate s).miIntr = s.miIntr := rfl
@[simp] theorem syncAggregate_miMask (s : State) : (syncAggregate s).miMask = s.miMask := rfl
@[simp] theorem syncAggregate_env (s : State) : (syncAggregate s).env = s.env := rfl
@[simp] theorem syncAggregate_draws (s : State) : (syncAggregate s).draws = s.draws := rfl
@[simp] theorem syncAggregate_params (s : State) : (syncAggregate s).params = s.params := rfl

/-! ### exceptionEntry -/

@[simp] theorem exceptionEntry_regs (s : State) (c : BitVec 5) (ce : BitVec 2) (a : Word) (d : Bool) : (exceptionEntry c ce a d s).regs = s.regs := rfl
@[simp] theorem exceptionEntry_hi (s : State) (c : BitVec 5) (ce : BitVec 2) (a : Word) (d : Bool) : (exceptionEntry c ce a d s).hi = s.hi := rfl
@[simp] theorem exceptionEntry_lo (s : State) (c : BitVec 5) (ce : BitVec 2) (a : Word) (d : Bool) : (exceptionEntry c ce a d s).lo = s.lo := rfl
@[simp] theorem exceptionEntry_ticks (s : State) (c : BitVec 5) (ce : BitVec 2) (a : Word) (d : Bool) : (exceptionEntry c ce a d s).ticks = s.ticks := rfl
@[simp] theorem exceptionEntry_slots (s : State) (c : BitVec 5) (ce : BitVec 2) (a : Word) (d : Bool) : (exceptionEntry c ce a d s).slots = s.slots := rfl
@[simp] theorem exceptionEntry_fcr31 (s : State) (c : BitVec 5) (ce : BitVec 2) (a : Word) (d : Bool) : (exceptionEntry c ce a d s).fcr31 = s.fcr31 := rfl
@[simp] theorem exceptionEntry_llbit (s : State) (c : BitVec 5) (ce : BitVec 2) (a : Word) (d : Bool) : (exceptionEntry c ce a d s).llbit = s.llbit := rfl
@[simp] theorem exceptionEntry_halted (s : State) (c : BitVec 5) (ce : BitVec 2) (a : Word) (d : Bool) : (exceptionEntry c ce a d s).halted = s.halted := rfl
@[simp] theorem exceptionEntry_mem (s : State) (c : BitVec 5) (ce : BitVec 2) (a : Word) (d : Bool) : (exceptionEntry c ce a d s).mem = s.mem := rfl
@[simp] theorem exceptionEntry_rom (s : State) (c : BitVec 5) (ce : BitVec 2) (a : Word) (d : Bool) : (exceptionEntry c ce a d s).rom = s.rom := rfl
@[simp] theorem exceptionEntry_blocks (s : State) (c : BitVec 5) (ce : BitVec 2) (a : Word) (d : Bool) : (exceptionEntry c ce a d s).blocks = s.blocks := rfl
@[simp] theorem exceptionEntry_miIntr (s : State) (c : BitVec 5) (ce : BitVec 2) (a : Word) (d : Bool) : (exceptionEntry c ce a d s).miIntr = s.miIntr := rfl
@[simp] theorem exceptionEntry_miMask (s : State) (c : BitVec 5) (ce : BitVec 2) (a : Word) (d : Bool) : (exceptionEntry c ce a d s).miMask = s.miMask := rfl
@[simp] theorem exceptionEntry_env (s : State) (c : BitVec 5) (ce : BitVec 2) (a : Word) (d : Bool) : (exceptionEntry c ce a d s).env = s.env := rfl
@[simp] theorem exceptionEntry_draws (s : State) (c : BitVec 5) (ce : BitVec 2) (a : Word) (d : Bool) : (exceptionEntry c ce a d s).draws = s.draws := rfl
@[simp] theorem exceptionEntry_params (s : State) (c : BitVec 5) (ce : BitVec 2) (a : Word) (d : Bool) : (exceptionEntry c ce a d s).params = s.params := rfl
@[simp] theorem exceptionEntry_pc (s : State) (c : BitVec 5) (ce : BitVec 2) (a : Word) (d : Bool) :
    (exceptionEntry c ce a d s).pc = exceptionVector (Status.bev s.status) := rfl
@[simp] theorem exceptionEntry_pending (s : State) (c : BitVec 5) (ce : BitVec 2) (a : Word) (d : Bool) :
    (exceptionEntry c ce a d s).pending = none := rfl

/-! ### delayBranch -/

@[simp] theorem delayBranch_regs (s : State) (t : Word) : (delayBranch t s).regs = s.regs := rfl
@[simp] theorem delayBranch_hi (s : State) (t : Word) : (delayBranch t s).hi = s.hi := rfl
@[simp] theorem delayBranch_lo (s : State) (t : Word) : (delayBranch t s).lo = s.lo := rfl
@[simp] theorem delayBranch_pc (s : State) (t : Word) : (delayBranch t s).pc = s.pc := rfl
@[simp] theorem delayBranch_cp0 (s : State) (t : Word) : (delayBranch t s).cp0 = s.cp0 := rfl
@[simp] theorem delayBranch_ticks (s : State) (t : Word) : (delayBranch t s).ticks = s.ticks := rfl
@[simp] theorem delayBranch_slots (s : State) (t : Word) : (delayBranch t s).slots = s.slots := rfl
@[simp] theorem delayBranch_fcr31 (s : State) (t : Word) : (delayBranch t s).fcr31 = s.fcr31 := rfl
@[simp] theorem delayBranch_llbit (s : State) (t : Word) : (delayBranch t s).llbit = s.llbit := rfl
@[simp] theorem delayBranch_halted (s : State) (t : Word) : (delayBranch t s).halted = s.halted := rfl
@[simp] theorem delayBranch_mem (s : State) (t : Word) : (delayBranch t s).mem = s.mem := rfl
@[simp] theorem delayBranch_rom (s : State) (t : Word) : (delayBranch t s).rom = s.rom := rfl
@[simp] theorem delayBranch_blocks (s : State) (t : Word) : (delayBranch t s).blocks = s.blocks := rfl
@[simp] theorem delayBranch_miIntr (s : State) (t : Word) : (delayBranch t s).miIntr = s.miIntr := rfl
@[simp] theorem delayBranch_miMask (s : State) (t : Word) : (delayBranch t s).miMask = s.miMask := rfl
@[simp] theorem delayBranch_env (s : State) (t : Word) : (delayBranch t s).env = s.env := rfl
@[simp] theorem delayBranch_draws (s : State) (t : Word) : (delayBranch t s).draws = s.draws := rfl
@[simp] theorem delayBranch_params (s : State) (t : Word) : (delayBranch t s).params = s.params := rfl
@[simp] theorem delayBranch_pending (s : State) (t : Word) :
    (delayBranch t s).pending = some ⟨t, .two⟩ := rfl

/-! ### skipDelaySlot -/

@[simp] theorem skipDelaySlot_regs (s : State) : (skipDelaySlot s).regs = s.regs := rfl
@[simp] theorem skipDelaySlot_hi (s : State) : (skipDelaySlot s).hi = s.hi := rfl
@[simp] theorem skipDelaySlot_lo (s : State) : (skipDelaySlot s).lo = s.lo := rfl
@[simp] theorem skipDelaySlot_pending (s : State) : (skipDelaySlot s).pending = s.pending := rfl
@[simp] theorem skipDelaySlot_cp0 (s : State) : (skipDelaySlot s).cp0 = s.cp0 := rfl
@[simp] theorem skipDelaySlot_ticks (s : State) : (skipDelaySlot s).ticks = s.ticks := rfl
@[simp] theorem skipDelaySlot_slots (s : State) : (skipDelaySlot s).slots = s.slots := rfl
@[simp] theorem skipDelaySlot_fcr31 (s : State) : (skipDelaySlot s).fcr31 = s.fcr31 := rfl
@[simp] theorem skipDelaySlot_llbit (s : State) : (skipDelaySlot s).llbit = s.llbit := rfl
@[simp] theorem skipDelaySlot_halted (s : State) : (skipDelaySlot s).halted = s.halted := rfl
@[simp] theorem skipDelaySlot_mem (s : State) : (skipDelaySlot s).mem = s.mem := rfl
@[simp] theorem skipDelaySlot_rom (s : State) : (skipDelaySlot s).rom = s.rom := rfl
@[simp] theorem skipDelaySlot_blocks (s : State) : (skipDelaySlot s).blocks = s.blocks := rfl
@[simp] theorem skipDelaySlot_miIntr (s : State) : (skipDelaySlot s).miIntr = s.miIntr := rfl
@[simp] theorem skipDelaySlot_miMask (s : State) : (skipDelaySlot s).miMask = s.miMask := rfl
@[simp] theorem skipDelaySlot_env (s : State) : (skipDelaySlot s).env = s.env := rfl
@[simp] theorem skipDelaySlot_draws (s : State) : (skipDelaySlot s).draws = s.draws := rfl
@[simp] theorem skipDelaySlot_params (s : State) : (skipDelaySlot s).params = s.params := rfl
@[simp] theorem skipDelaySlot_pc (s : State) :
    (skipDelaySlot s).pc = s.pc + 4#64 := rfl

/-! ### linkTo -/

@[simp] theorem linkTo_regs (s : State) (pa : Nat) : (linkTo pa s).regs = s.regs := rfl
@[simp] theorem linkTo_hi (s : State) (pa : Nat) : (linkTo pa s).hi = s.hi := rfl
@[simp] theorem linkTo_lo (s : State) (pa : Nat) : (linkTo pa s).lo = s.lo := rfl
@[simp] theorem linkTo_pc (s : State) (pa : Nat) : (linkTo pa s).pc = s.pc := rfl
@[simp] theorem linkTo_pending (s : State) (pa : Nat) : (linkTo pa s).pending = s.pending := rfl
@[simp] theorem linkTo_ticks (s : State) (pa : Nat) : (linkTo pa s).ticks = s.ticks := rfl
@[simp] theorem linkTo_slots (s : State) (pa : Nat) : (linkTo pa s).slots = s.slots := rfl
@[simp] theorem linkTo_fcr31 (s : State) (pa : Nat) : (linkTo pa s).fcr31 = s.fcr31 := rfl
@[simp] theorem linkTo_halted (s : State) (pa : Nat) : (linkTo pa s).halted = s.halted := rfl
@[simp] theorem linkTo_mem (s : State) (pa : Nat) : (linkTo pa s).mem = s.mem := rfl
@[simp] theorem linkTo_rom (s : State) (pa : Nat) : (linkTo pa s).rom = s.rom := rfl
@[simp] theorem linkTo_blocks (s : State) (pa : Nat) : (linkTo pa s).blocks = s.blocks := rfl
@[simp] theorem linkTo_miIntr (s : State) (pa : Nat) : (linkTo pa s).miIntr = s.miIntr := rfl
@[simp] theorem linkTo_miMask (s : State) (pa : Nat) : (linkTo pa s).miMask = s.miMask := rfl
@[simp] theorem linkTo_env (s : State) (pa : Nat) : (linkTo pa s).env = s.env := rfl
@[simp] theorem linkTo_draws (s : State) (pa : Nat) : (linkTo pa s).draws = s.draws := rfl
@[simp] theorem linkTo_params (s : State) (pa : Nat) : (linkTo pa s).params = s.params := rfl
@[simp] theorem linkTo_llbit (s : State) (pa : Nat) :
    (linkTo pa s).llbit = true := rfl

/-! ### haltWith -/

@[simp] theorem haltWith_regs (s : State) (f : Fault) : (haltWith f s).regs = s.regs := rfl
@[simp] theorem haltWith_hi (s : State) (f : Fault) : (haltWith f s).hi = s.hi := rfl
@[simp] theorem haltWith_lo (s : State) (f : Fault) : (haltWith f s).lo = s.lo := rfl
@[simp] theorem haltWith_pc (s : State) (f : Fault) : (haltWith f s).pc = s.pc := rfl
@[simp] theorem haltWith_pending (s : State) (f : Fault) : (haltWith f s).pending = s.pending := rfl
@[simp] theorem haltWith_cp0 (s : State) (f : Fault) : (haltWith f s).cp0 = s.cp0 := rfl
@[simp] theorem haltWith_ticks (s : State) (f : Fault) : (haltWith f s).ticks = s.ticks := rfl
@[simp] theorem haltWith_slots (s : State) (f : Fault) : (haltWith f s).slots = s.slots := rfl
@[simp] theorem haltWith_fcr31 (s : State) (f : Fault) : (haltWith f s).fcr31 = s.fcr31 := rfl
@[simp] theorem haltWith_llbit (s : State) (f : Fault) : (haltWith f s).llbit = s.llbit := rfl
@[simp] theorem haltWith_mem (s : State) (f : Fault) : (haltWith f s).mem = s.mem := rfl
@[simp] theorem haltWith_rom (s : State) (f : Fault) : (haltWith f s).rom = s.rom := rfl
@[simp] theorem haltWith_blocks (s : State) (f : Fault) : (haltWith f s).blocks = s.blocks := rfl
@[simp] theorem haltWith_miIntr (s : State) (f : Fault) : (haltWith f s).miIntr = s.miIntr := rfl
@[simp] theorem haltWith_miMask (s : State) (f : Fault) : (haltWith f s).miMask = s.miMask := rfl
@[simp] theorem haltWith_env (s : State) (f : Fault) : (haltWith f s).env = s.env := rfl
@[simp] theorem haltWith_draws (s : State) (f : Fault) : (haltWith f s).draws = s.draws := rfl
@[simp] theorem haltWith_params (s : State) (f : Fault) : (haltWith f s).params = s.params := rfl
@[simp] theorem haltWith_halted (s : State) (f : Fault) :
    (haltWith f s).halted = some f := rfl

/-! ### State.setFpr64 -/

@[simp] theorem setFpr64_regs (s : State) (n : Reg) (v : Word) : (s.setFpr64 n v).regs = s.regs := by
  unfold State.setFpr64; repeat' (first | rfl | split)
@[simp] theorem setFpr64_hi (s : State) (n : Reg) (v : Word) : (s.setFpr64 n v).hi = s.hi := by
  unfold State.setFpr64; repeat' (first | rfl | split)
@[simp] theorem setFpr64_lo (s : State) (n : Reg) (v : Word) : (s.setFpr64 n v).lo = s.lo := by
  unfold State.setFpr64; repeat' (first | rfl | split)
@[simp] theorem setFpr64_pc (s : State) (n : Reg) (v : Word) : (s.setFpr64 n v).pc = s.pc := by
  unfold State.setFpr64; repeat' (first | rfl | split)
@[simp] theorem setFpr64_pending (s : State) (n : Reg) (v : Word) : (s.setFpr64 n v).pending = s.pending := by
  unfold State.setFpr64; repeat' (first | rfl | split)
@[simp] theorem setFpr64_cp0 (s : State) (n : Reg) (v : Word) : (s.setFpr64 n v).cp0 = s.cp0 := by
  unfold State.setFpr64; repeat' (first | rfl | split)
@[simp] theorem setFpr64_ticks (s : State) (n : Reg) (v : Word) : (s.setFpr64 n v).ticks = s.ticks := by
  unfold State.setFpr64; repeat' (first | rfl | split)
@[simp] theorem setFpr64_fcr31 (s : State) (n : Reg) (v : Word) : (s.setFpr64 n v).fcr31 = s.fcr31 := by
  unfold State.setFpr64; repeat' (first | rfl | split)
@[simp] theorem setFpr64_llbit (s : State) (n : Reg) (v : Word) : (s.setFpr64 n v).llbit = s.llbit := by
  unfold State.setFpr64; repeat' (first | rfl | split)
@[simp] theorem setFpr64_halted (s : State) (n : Reg) (v : Word) : (s.setFpr64 n v).halted = s.halted := by
  unfold State.setFpr64; repeat' (first | rfl | split)
@[simp] theorem setFpr64_mem (s : State) (n : Reg) (v : Word) : (s.setFpr64 n v).mem = s.mem := by
  unfold State.setFpr64; repeat' (first | rfl | split)
@[simp] theorem setFpr64_rom (s : State) (n : Reg) (v : Word) : (s.setFpr64 n v).rom = s.rom := by
  unfold State.setFpr64; repeat' (first | rfl | split)
@[simp] theorem setFpr64_blocks (s : State) (n : Reg) (v : Word) : (s.setFpr64 n v).blocks = s.blocks := by
  unfold State.setFpr64; repeat' (first | rfl | split)
@[simp] theorem setFpr64_miIntr (s : State) (n : Reg) (v : Word) : (s.setFpr64 n v).miIntr = s.miIntr := by
  unfold State.setFpr64; repeat' (first | rfl | split)
@[simp] theorem setFpr64_miMask (s : State) (n : Reg) (v : Word) : (s.setFpr64 n v).miMask = s.miMask := by
  unfold State.setFpr64; repeat' (first | rfl | split)
@[simp] theorem setFpr64_env (s : State) (n : Reg) (v : Word) : (s.setFpr64 n v).env = s.env := by
  unfold State.setFpr64; repeat' (first | rfl | split)
@[simp] theorem setFpr64_draws (s : State) (n : Reg) (v : Word) : (s.setFpr64 n v).draws = s.draws := by
  unfold State.setFpr64; repeat' (first | rfl | split)
@[simp] theorem setFpr64_params (s : State) (n : Reg) (v : Word) : (s.setFpr64 n v).params = s.params := by
  unfold State.setFpr64; repeat' (first | rfl | split)

/-! ### cop0Write -/

@[simp] theorem cop0Write_regs (s : State) (r : Reg) (v : Word32) : (cop0Write r v s).regs = s.regs := by
  unfold cop0Write; repeat' (first | rfl | split)
@[simp] theorem cop0Write_hi (s : State) (r : Reg) (v : Word32) : (cop0Write r v s).hi = s.hi := by
  unfold cop0Write; repeat' (first | rfl | split)
@[simp] theorem cop0Write_lo (s : State) (r : Reg) (v : Word32) : (cop0Write r v s).lo = s.lo := by
  unfold cop0Write; repeat' (first | rfl | split)
@[simp] theorem cop0Write_pc (s : State) (r : Reg) (v : Word32) : (cop0Write r v s).pc = s.pc := by
  unfold cop0Write; repeat' (first | rfl | split)
@[simp] theorem cop0Write_pending (s : State) (r : Reg) (v : Word32) : (cop0Write r v s).pending = s.pending := by
  unfold cop0Write; repeat' (first | rfl | split)
@[simp] theorem cop0Write_slots (s : State) (r : Reg) (v : Word32) : (cop0Write r v s).slots = s.slots := by
  unfold cop0Write; repeat' (first | rfl | split)
@[simp] theorem cop0Write_fcr31 (s : State) (r : Reg) (v : Word32) : (cop0Write r v s).fcr31 = s.fcr31 := by
  unfold cop0Write; repeat' (first | rfl | split)
@[simp] theorem cop0Write_llbit (s : State) (r : Reg) (v : Word32) : (cop0Write r v s).llbit = s.llbit := by
  unfold cop0Write; repeat' (first | rfl | split)
@[simp] theorem cop0Write_halted (s : State) (r : Reg) (v : Word32) : (cop0Write r v s).halted = s.halted := by
  unfold cop0Write; repeat' (first | rfl | split)
@[simp] theorem cop0Write_mem (s : State) (r : Reg) (v : Word32) : (cop0Write r v s).mem = s.mem := by
  unfold cop0Write; repeat' (first | rfl | split)
@[simp] theorem cop0Write_rom (s : State) (r : Reg) (v : Word32) : (cop0Write r v s).rom = s.rom := by
  unfold cop0Write; repeat' (first | rfl | split)
@[simp] theorem cop0Write_blocks (s : State) (r : Reg) (v : Word32) : (cop0Write r v s).blocks = s.blocks := by
  unfold cop0Write; repeat' (first | rfl | split)
@[simp] theorem cop0Write_miIntr (s : State) (r : Reg) (v : Word32) : (cop0Write r v s).miIntr = s.miIntr := by
  unfold cop0Write; repeat' (first | rfl | split)
@[simp] theorem cop0Write_miMask (s : State) (r : Reg) (v : Word32) : (cop0Write r v s).miMask = s.miMask := by
  unfold cop0Write; repeat' (first | rfl | split)
@[simp] theorem cop0Write_env (s : State) (r : Reg) (v : Word32) : (cop0Write r v s).env = s.env := by
  unfold cop0Write; repeat' (first | rfl | split)
@[simp] theorem cop0Write_draws (s : State) (r : Reg) (v : Word32) : (cop0Write r v s).draws = s.draws := by
  unfold cop0Write; repeat' (first | rfl | split)
@[simp] theorem cop0Write_params (s : State) (r : Reg) (v : Word32) : (cop0Write r v s).params = s.params := by
  unfold cop0Write; repeat' (first | rfl | split)

/-! ### returnFromException -/

@[simp] theorem returnFromException_regs (s : State) : (returnFromException s).regs = s.regs := by
  unfold returnFromException; repeat' (first | rfl | split)
@[simp] theorem returnFromException_hi (s : State) : (returnFromException s).hi = s.hi := by
  unfold returnFromException; repeat' (first | rfl | split)
@[simp] theorem returnFromException_lo (s : State) : (returnFromException s).lo = s.lo := by
  unfold returnFromException; repeat' (first | rfl | split)
@[simp] theorem returnFromException_pending (s : State) : (returnFromException s).pending = s.pending := by
  unfold returnFromException; repeat' (first | rfl | split)
@[simp] theorem returnFromException_ticks (s : State) : (returnFromException s).ticks = s.ticks := by
  unfold returnFromException; repeat' (first | rfl | split)
@[simp] theorem returnFromException_slots (s : State) : (returnFromException s).slots = s.slots := by
  unfold returnFromException; repeat' (first | rfl | split)
@[simp] theorem returnFromException_fcr31 (s : State) : (returnFromException s).fcr31 = s.fcr31 := by
  unfold returnFromException; repeat' (first | rfl | split)
@[simp] theorem returnFromException_halted (s : State) : (returnFromException s).halted = s.halted := by
  unfold returnFromException; repeat' (first | rfl | split)
@[simp] theorem returnFromException_mem (s : State) : (returnFromException s).mem = s.mem := by
  unfold returnFromException; repeat' (first | rfl | split)
@[simp] theorem returnFromException_rom (s : State) : (returnFromException s).rom = s.rom := by
  unfold returnFromException; repeat' (first | rfl | split)
@[simp] theorem returnFromException_blocks (s : State) : (returnFromException s).blocks = s.blocks := by
  unfold returnFromException; repeat' (first | rfl | split)
@[simp] theorem returnFromException_miIntr (s : State) : (returnFromException s).miIntr = s.miIntr := by
  unfold returnFromException; repeat' (first | rfl | split)
@[simp] theorem returnFromException_miMask (s : State) : (returnFromException s).miMask = s.miMask := by
  unfold returnFromException; repeat' (first | rfl | split)
@[simp] theorem returnFromException_env (s : State) : (returnFromException s).env = s.env := by
  unfold returnFromException; repeat' (first | rfl | split)
@[simp] theorem returnFromException_draws (s : State) : (returnFromException s).draws = s.draws := by
  unfold returnFromException; repeat' (first | rfl | split)
@[simp] theorem returnFromException_params (s : State) : (returnFromException s).params = s.params := by
  unfold returnFromException; repeat' (first | rfl | split)

/-! ### branchIf -/

@[simp] theorem branchIf_regs (s : State) (c : Bool) (t : Word) : (branchIf c t s).regs = s.regs := by
  unfold branchIf; repeat' (first | rfl | split)
@[simp] theorem branchIf_hi (s : State) (c : Bool) (t : Word) : (branchIf c t s).hi = s.hi := by
  unfold branchIf; repeat' (first | rfl | split)
@[simp] theorem branchIf_lo (s : State) (c : Bool) (t : Word) : (branchIf c t s).lo = s.lo := by
  unfold branchIf; repeat' (first | rfl | split)
@[simp] theorem branchIf_pc (s : State) (c : Bool) (t : Word) : (branchIf c t s).pc = s.pc := by
  unfold branchIf; repeat' (first | rfl | split)
@[simp] theorem branchIf_cp0 (s : State) (c : Bool) (t : Word) : (branchIf c t s).cp0 = s.cp0 := by
  unfold branchIf; repeat' (first | rfl | split)
@[simp] theorem branchIf_ticks (s : State) (c : Bool) (t : Word) : (branchIf c t s).ticks = s.ticks := by
  unfold branchIf; repeat' (first | rfl | split)
@[simp] theorem branchIf_slots (s : State) (c : Bool) (t : Word) : (branchIf c t s).slots = s.slots := by
  unfold branchIf; repeat' (first | rfl | split)
@[simp] theorem branchIf_fcr31 (s : State) (c : Bool) (t : Word) : (branchIf c t s).fcr31 = s.fcr31 := by
  unfold branchIf; repeat' (first | rfl | split)
@[simp] theorem branchIf_llbit (s : State) (c : Bool) (t : Word) : (branchIf c t s).llbit = s.llbit := by
  unfold branchIf; repeat' (first | rfl | split)
@[simp] theorem branchIf_halted (s : State) (c : Bool) (t : Word) : (branchIf c t s).halted = s.halted := by
  unfold branchIf; repeat' (first | rfl | split)
@[simp] theorem branchIf_mem (s : State) (c : Bool) (t : Word) : (branchIf c t s).mem = s.mem := by
  unfold branchIf; repeat' (first | rfl | split)
@[simp] theorem branchIf_rom (s : State) (c : Bool) (t : Word) : (branchIf c t s).rom = s.rom := by
  unfold branchIf; repeat' (first | rfl | split)
@[simp] theorem branchIf_blocks (s : State) (c : Bool) (t : Word) : (branchIf c t s).blocks = s.blocks := by
  unfold branchIf; repeat' (first | rfl | split)
@[simp] theorem branchIf_miIntr (s : State) (c : Bool) (t : Word) : (branchIf c t s).miIntr = s.miIntr := by
  unfold branchIf; repeat' (first | rfl | split)
@[simp] theorem branchIf_miMask (s : State) (c : Bool) (t : Word) : (branchIf c t s).miMask = s.miMask := by
  unfold branchIf; repeat' (first | rfl | split)
@[simp] theorem branchIf_env (s : State) (c : Bool) (t : Word) : (branchIf c t s).env = s.env := by
  unfold branchIf; repeat' (first | rfl | split)
@[simp] theorem branchIf_draws (s : State) (c : Bool) (t : Word) : (branchIf c t s).draws = s.draws := by
  unfold branchIf; repeat' (first | rfl | split)
@[simp] theorem branchIf_params (s : State) (c : Bool) (t : Word) : (branchIf c t s).params = s.params := by
  unfold branchIf; repeat' (first | rfl | split)

/-! ### branchLikely -/

@[simp] theorem branchLikely_regs (s : State) (c : Bool) (t : Word) : (branchLikely c t s).regs = s.regs := by
  unfold branchLikely; repeat' (first | rfl | split)
@[simp] theorem branchLikely_hi (s : State) (c : Bool) (t : Word) : (branchLikely c t s).hi = s.hi := by
  unfold branchLikely; repeat' (first | rfl | split)
@[simp] theorem branchLikely_lo (s : State) (c : Bool) (t : Word) : (branchLikely c t s).lo = s.lo := by
  unfold branchLikely; repeat' (first | rfl | split)
@[simp] theorem branchLikely_cp0 (s : State) (c : Bool) (t : Word) : (branchLikely c t s).cp0 = s.cp0 := by
  unfold branchLikely; repeat' (first | rfl | split)
@[simp] theorem branchLikely_ticks (s : State) (c : Bool) (t : Word) : (branchLikely c t s).ticks = s.ticks := by
  unfold branchLikely; repeat' (first | rfl | split)
@[simp] theorem branchLikely_slots (s : State) (c : Bool) (t : Word) : (branchLikely c t s).slots = s.slots := by
  unfold branchLikely; repeat' (first | rfl | split)
@[simp] theorem branchLikely_fcr31 (s : State) (c : Bool) (t : Word) : (branchLikely c t s).fcr31 = s.fcr31 := by
  unfold branchLikely; repeat' (first | rfl | split)
@[simp] theorem branchLikely_llbit (s : State) (c : Bool) (t : Word) : (branchLikely c t s).llbit = s.llbit := by
  unfold branchLikely; repeat' (first | rfl | split)
@[simp] theorem branchLikely_halted (s : State) (c : Bool) (t : Word) : (branchLikely c t s).halted = s.halted := by
  unfold branchLikely; repeat' (first | rfl | split)
@[simp] theorem branchLikely_mem (s : State) (c : Bool) (t : Word) : (branchLikely c t s).mem = s.mem := by
  unfold branchLikely; repeat' (first | rfl | split)
@[simp] theorem branchLikely_rom (s : State) (c : Bool) (t : Word) : (branchLikely c t s).rom = s.rom := by
  unfold branchLikely; repeat' (first | rfl | split)
@[simp] theorem branchLikely_blocks (s : State) (c : Bool) (t : Word) : (branchLikely c t s).blocks = s.blocks := by
  unfold branchLikely; repeat' (first | rfl | split)
@[simp] theorem branchLikely_miIntr (s : State) (c : Bool) (t : Word) : (branchLikely c t s).miIntr = s.miIntr := by
  unfold branchLikely; repeat' (first | rfl | split)
@[simp] theorem branchLikely_miMask (s : State) (c : Bool) (t : Word) : (branchLikely c t s).miMask = s.miMask := by
  unfold branchLikely; repeat' (first | rfl | split)
@[simp] theorem branchLikely_env (s : State) (c : Bool) (t : Word) : (branchLikely c t s).env = s.env := by
  unfold branchLikely; repeat' (first | rfl | split)
@[simp] theorem branchLikely_draws (s : State) (c : Bool) (t : Word) : (branchLikely c t s).draws = s.draws := by
  unfold branchLikely; repeat' (first | rfl | split)
@[simp] theorem branchLikely_params (s : State) (c : Bool) (t : Word) : (branchLikely c t s).params = s.params := by
  unfold branchLikely; repeat' (first | rfl | split)

/-! ### setFpControl -/

@[simp] theorem setFpControl_regs (s : State) (n : Reg) (v : Word32) : (setFpControl n v s).regs = s.regs := by
  unfold setFpControl; repeat' (first | rfl | split)
@[simp] theorem setFpControl_hi (s : State) (n : Reg) (v : Word32) : (setFpControl n v s).hi = s.hi := by
  unfold setFpControl; repeat' (first | rfl | split)
@[simp] theorem setFpControl_lo (s : State) (n : Reg) (v : Word32) : (setFpControl n v s).lo = s.lo := by
  unfold setFpControl; repeat' (first | rfl | split)
@[simp] theorem setFpControl_pc (s : State) (n : Reg) (v : Word32) : (setFpControl n v s).pc = s.pc := by
  unfold setFpControl; repeat' (first | rfl | split)
@[simp] theorem setFpControl_pending (s : State) (n : Reg) (v : Word32) : (setFpControl n v s).pending = s.pending := by
  unfold setFpControl; repeat' (first | rfl | split)
@[simp] theorem setFpControl_cp0 (s : State) (n : Reg) (v : Word32) : (setFpControl n v s).cp0 = s.cp0 := by
  unfold setFpControl; repeat' (first | rfl | split)
@[simp] theorem setFpControl_ticks (s : State) (n : Reg) (v : Word32) : (setFpControl n v s).ticks = s.ticks := by
  unfold setFpControl; repeat' (first | rfl | split)
@[simp] theorem setFpControl_slots (s : State) (n : Reg) (v : Word32) : (setFpControl n v s).slots = s.slots := by
  unfold setFpControl; repeat' (first | rfl | split)
@[simp] theorem setFpControl_llbit (s : State) (n : Reg) (v : Word32) : (setFpControl n v s).llbit = s.llbit := by
  unfold setFpControl; repeat' (first | rfl | split)
@[simp] theorem setFpControl_halted (s : State) (n : Reg) (v : Word32) : (setFpControl n v s).halted = s.halted := by
  unfold setFpControl; repeat' (first | rfl | split)
@[simp] theorem setFpControl_mem (s : State) (n : Reg) (v : Word32) : (setFpControl n v s).mem = s.mem := by
  unfold setFpControl; repeat' (first | rfl | split)
@[simp] theorem setFpControl_rom (s : State) (n : Reg) (v : Word32) : (setFpControl n v s).rom = s.rom := by
  unfold setFpControl; repeat' (first | rfl | split)
@[simp] theorem setFpControl_blocks (s : State) (n : Reg) (v : Word32) : (setFpControl n v s).blocks = s.blocks := by
  unfold setFpControl; repeat' (first | rfl | split)
@[simp] theorem setFpControl_miIntr (s : State) (n : Reg) (v : Word32) : (setFpControl n v s).miIntr = s.miIntr := by
  unfold setFpControl; repeat' (first | rfl | split)
@[simp] theorem setFpControl_miMask (s : State) (n : Reg) (v : Word32) : (setFpControl n v s).miMask = s.miMask := by
  unfold setFpControl; repeat' (first | rfl | split)
@[simp] theorem setFpControl_env (s : State) (n : Reg) (v : Word32) : (setFpControl n v s).env = s.env := by
  unfold setFpControl; repeat' (first | rfl | split)
@[simp] theorem setFpControl_draws (s : State) (n : Reg) (v : Word32) : (setFpControl n v s).draws = s.draws := by
  unfold setFpControl; repeat' (first | rfl | split)
@[simp] theorem setFpControl_params (s : State) (n : Reg) (v : Word32) : (setFpControl n v s).params = s.params := by
  unfold setFpControl; repeat' (first | rfl | split)

/-! ### resolveBranch -/

@[simp] theorem resolveBranch_regs (s : State) : (resolveBranch s).regs = s.regs := by
  unfold resolveBranch; repeat' (first | rfl | split)
@[simp] theorem resolveBranch_hi (s : State) : (resolveBranch s).hi = s.hi := by
  unfold resolveBranch; repeat' (first | rfl | split)
@[simp] theorem resolveBranch_lo (s : State) : (resolveBranch s).lo = s.lo := by
  unfold resolveBranch; repeat' (first | rfl | split)
@[simp] theorem resolveBranch_cp0 (s : State) : (resolveBranch s).cp0 = s.cp0 := by
  unfold resolveBranch; repeat' (first | rfl | split)
@[simp] theorem resolveBranch_ticks (s : State) : (resolveBranch s).ticks = s.ticks := by
  unfold resolveBranch; repeat' (first | rfl | split)
@[simp] theorem resolveBranch_slots (s : State) : (resolveBranch s).slots = s.slots := by
  unfold resolveBranch; repeat' (first | rfl | split)
@[simp] theorem resolveBranch_fcr31 (s : State) : (resolveBranch s).fcr31 = s.fcr31 := by
  unfold resolveBranch; repeat' (first | rfl | split)
@[simp] theorem resolveBranch_llbit (s : State) : (resolveBranch s).llbit = s.llbit := by
  unfold resolveBranch; repeat' (first | rfl | split)
@[simp] theorem resolveBranch_halted (s : State) : (resolveBranch s).halted = s.halted := by
  unfold resolveBranch; repeat' (first | rfl | split)
@[simp] theorem resolveBranch_mem (s : State) : (resolveBranch s).mem = s.mem := by
  unfold resolveBranch; repeat' (first | rfl | split)
@[simp] theorem resolveBranch_rom (s : State) : (resolveBranch s).rom = s.rom := by
  unfold resolveBranch; repeat' (first | rfl | split)
@[simp] theorem resolveBranch_blocks (s : State) : (resolveBranch s).blocks = s.blocks := by
  unfold resolveBranch; repeat' (first | rfl | split)
@[simp] theorem resolveBranch_miIntr (s : State) : (resolveBranch s).miIntr = s.miIntr := by
  unfold resolveBranch; repeat' (first | rfl | split)
@[simp] theorem resolveBranch_miMask (s : State) : (resolveBranch s).miMask = s.miMask := by
  unfold resolveBranch; repeat' (first | rfl | split)
@[simp] theorem resolveBranch_env (s : State) : (resolveBranch s).env = s.env := by
  unfold resolveBranch; repeat' (first | rfl | split)
@[simp] theorem resolveBranch_draws (s : State) : (resolveBranch s).draws = s.draws := by
  unfold resolveBranch; repeat' (first | rfl | split)
@[simp] theorem resolveBranch_params (s : State) : (resolveBranch s).params = s.params := by
  unfold resolveBranch; repeat' (first | rfl | split)

/-! ### checkInterrupts -/

@[simp] theorem checkInterrupts_regs (s : State) : (checkInterrupts s).regs = s.regs := by
  unfold checkInterrupts; repeat' (first | rfl | split)
@[simp] theorem checkInterrupts_hi (s : State) : (checkInterrupts s).hi = s.hi := by
  unfold checkInterrupts; repeat' (first | rfl | split)
@[simp] theorem checkInterrupts_lo (s : State) : (checkInterrupts s).lo = s.lo := by
  unfold checkInterrupts; repeat' (first | rfl | split)
@[simp] theorem checkInterrupts_ticks (s : State) : (checkInterrupts s).ticks = s.ticks := by
  unfold checkInterrupts; repeat' (first | rfl | split)
@[simp] theorem checkInterrupts_slots (s : State) : (checkInterrupts s).slots = s.slots := by
  unfold checkInterrupts; repeat' (first | rfl | split)
@[simp] theorem checkInterrupts_fcr31 (s : State) : (checkInterrupts s).fcr31 = s.fcr31 := by
  unfold checkInterrupts; repeat' (first | rfl | split)
@[simp] theorem checkInterrupts_llbit (s : State) : (checkInterrupts s).llbit = s.llbit := by
  unfold checkInterrupts; repeat' (first | rfl | split)
@[simp] theorem checkInterrupts_halted (s : State) : (checkInterrupts s).halted = s.halted := by
  unfold checkInterrupts; repeat' (first | rfl | split)
@[simp] theorem checkInterrupts_mem (s : State) : (checkInterrupts s).mem = s.mem := by
  unfold checkInterrupts; repeat' (first | rfl | split)
@[simp] theorem checkInterrupts_rom (s : State) : (checkInterrupts s).rom = s.rom := by
  unfold checkInterrupts; repeat' (first | rfl | split)
@[simp] theorem checkInterrupts_blocks (s : State) : (checkInterrupts s).blocks = s.blocks := by
  unfold checkInterrupts; repeat' (first | rfl | split)
@[simp] theorem checkInterrupts_miIntr (s : State) : (checkInterrupts s).miIntr = s.miIntr := by
  unfold checkInterrupts; repeat' (first | rfl | split)
@[simp] theorem checkInterrupts_miMask (s : State) : (checkInterrupts s).miMask = s.miMask := by
  unfold checkInterrupts; repeat' (first | rfl | split)
@[simp] theorem checkInterrupts_env (s : State) : (checkInterrupts s).env = s.env := by
  unfold checkInterrupts; repeat' (first | rfl | split)
@[simp] theorem checkInterrupts_draws (s : State) : (checkInterrupts s).draws = s.draws := by
  unfold checkInterrupts; repeat' (first | rfl | split)
@[simp] theorem checkInterrupts_params (s : State) : (checkInterrupts s).params = s.params := by
  unfold checkInterrupts; repeat' (first | rfl | split)

/-! ### timerTick -/

@[simp] theorem timerTick_regs (s : State) : (timerTick s).regs = s.regs := by
  unfold timerTick; repeat' (first | rfl | split)
@[simp] theorem timerTick_hi (s : State) : (timerTick s).hi = s.hi := by
  unfold timerTick; repeat' (first | rfl | split)
@[simp] theorem timerTick_lo (s : State) : (timerTick s).lo = s.lo := by
  unfold timerTick; repeat' (first | rfl | split)
@[simp] theorem timerTick_pc (s : State) : (timerTick s).pc = s.pc := by
  unfold timerTick; repeat' (first | rfl | split)
@[simp] theorem timerTick_pending (s : State) : (timerTick s).pending = s.pending := by
  unfold timerTick; repeat' (first | rfl | split)
@[simp] theorem timerTick_slots (s : State) : (timerTick s).slots = s.slots := by
  unfold timerTick; repeat' (first | rfl | split)
@[simp] theorem timerTick_fcr31 (s : State) : (timerTick s).fcr31 = s.fcr31 := by
  unfold timerTick; repeat' (first | rfl | split)
@[simp] theorem timerTick_llbit (s : State) : (timerTick s).llbit = s.llbit := by
  unfold timerTick; repeat' (first | rfl | split)
@[simp] theorem timerTick_halted (s : State) : (timerTick s).halted = s.halted := by
  unfold timerTick; repeat' (first | rfl | split)
@[simp] theorem timerTick_mem (s : State) : (timerTick s).mem = s.mem := by
  unfold timerTick; repeat' (first | rfl | split)
@[simp] theorem timerTick_rom (s : State) : (timerTick s).rom = s.rom := by
  unfold timerTick; repeat' (first | rfl | split)
@[simp] theorem timerTick_blocks (s : State) : (timerTick s).blocks = s.blocks := by
  unfold timerTick; repeat' (first | rfl | split)
@[simp] theorem timerTick_miIntr (s : State) : (timerTick s).miIntr = s.miIntr := by
  unfold timerTick; repeat' (first | rfl | split)
@[simp] theorem timerTick_miMask (s : State) : (timerTick s).miMask = s.miMask := by
  unfold timerTick; repeat' (first | rfl | split)
@[simp] theorem timerTick_env (s : State) : (timerTick s).env = s.env := by
  unfold timerTick; repeat' (first | rfl | split)
@[simp] theorem timerTick_draws (s : State) : (timerTick s).draws = s.draws := by
  unfold timerTick; repeat' (first | rfl | split)
@[simp] theorem timerTick_params (s : State) : (timerTick s).params = s.params := by
  unfold timerTick; repeat' (first | rfl | split)

/-! ### EnvAction.act -/

@[simp] theorem EnvAction_act_regs (s : State) (a : EnvAction) : (a.act s).regs = s.regs := by
  unfold EnvAction.act; repeat' (first | rfl | split)
@[simp] theorem EnvAction_act_hi (s : State) (a : EnvAction) : (a.act s).hi = s.hi := by
  unfold EnvAction.act; repeat' (first | rfl | split)
@[simp] theorem EnvAction_act_lo (s : State) (a : EnvAction) : (a.act s).lo = s.lo := by
  unfold EnvAction.act; repeat' (first | rfl | split)
@[simp] theorem EnvAction_act_pc (s : State) (a : EnvAction) : (a.act s).pc = s.pc := by
  unfold EnvAction.act; repeat' (first | rfl | split)
@[simp] theorem EnvAction_act_pending (s : State) (a : EnvAction) : (a.act s).pending = s.pending := by
  unfold EnvAction.act; repeat' (first | rfl | split)
@[simp] theorem EnvAction_act_ticks (s : State) (a : EnvAction) : (a.act s).ticks = s.ticks := by
  unfold EnvAction.act; repeat' (first | rfl | split)
@[simp] theorem EnvAction_act_slots (s : State) (a : EnvAction) : (a.act s).slots = s.slots := by
  unfold EnvAction.act; repeat' (first | rfl | split)
@[simp] theorem EnvAction_act_fcr31 (s : State) (a : EnvAction) : (a.act s).fcr31 = s.fcr31 := by
  unfold EnvAction.act; repeat' (first | rfl | split)
@[simp] theorem EnvAction_act_llbit (s : State) (a : EnvAction) : (a.act s).llbit = s.llbit := by
  unfold EnvAction.act; repeat' (first | rfl | split)
@[simp] theorem EnvAction_act_halted (s : State) (a : EnvAction) : (a.act s).halted = s.halted := by
  unfold EnvAction.act; repeat' (first | rfl | split)
@[simp] theorem EnvAction_act_mem (s : State) (a : EnvAction) : (a.act s).mem = s.mem := by
  unfold EnvAction.act; repeat' (first | rfl | split)
@[simp] theorem EnvAction_act_rom (s : State) (a : EnvAction) : (a.act s).rom = s.rom := by
  unfold EnvAction.act; repeat' (first | rfl | split)
@[simp] theorem EnvAction_act_env (s : State) (a : EnvAction) : (a.act s).env = s.env := by
  unfold EnvAction.act; repeat' (first | rfl | split)
@[simp] theorem EnvAction_act_draws (s : State) (a : EnvAction) : (a.act s).draws = s.draws := by
  unfold EnvAction.act; repeat' (first | rfl | split)
@[simp] theorem EnvAction_act_params (s : State) (a : EnvAction) : (a.act s).params = s.params := by
  unfold EnvAction.act; repeat' (first | rfl | split)

/-! ### applyEnv -/

@[simp] theorem applyEnv_regs (s : State) : (applyEnv s).regs = s.regs := by
  unfold applyEnv; repeat' (first | rfl | split | simp)
@[simp] theorem applyEnv_hi (s : State) : (applyEnv s).hi = s.hi := by
  unfold applyEnv; repeat' (first | rfl | split | simp)
@[simp] theorem applyEnv_lo (s : State) : (applyEnv s).lo = s.lo := by
  unfold applyEnv; repeat' (first | rfl | split | simp)
@[simp] theorem applyEnv_pc (s : State) : (applyEnv s).pc = s.pc := by
  unfold applyEnv; repeat' (first | rfl | split | simp)
@[simp] theorem applyEnv_pending (s : State) : (applyEnv s).pending = s.pending := by
  unfold applyEnv; repeat' (first | rfl | split | simp)
@[simp] theorem applyEnv_ticks (s : State) : (applyEnv s).ticks = s.ticks := by
  unfold applyEnv; repeat' (first | rfl | split | simp)
@[simp] theorem applyEnv_slots (s : State) : (applyEnv s).slots = s.slots := by
  unfold applyEnv; repeat' (first | rfl | split | simp)
@[simp] theorem applyEnv_fcr31 (s : State) : (applyEnv s).fcr31 = s.fcr31 := by
  unfold applyEnv; repeat' (first | rfl | split | simp)
@[simp] theorem applyEnv_llbit (s : State) : (applyEnv s).llbit = s.llbit := by
  unfold applyEnv; repeat' (first | rfl | split | simp)
@[simp] theorem applyEnv_halted (s : State) : (applyEnv s).halted = s.halted := by
  unfold applyEnv; repeat' (first | rfl | split | simp)
@[simp] theorem applyEnv_mem (s : State) : (applyEnv s).mem = s.mem := by
  unfold applyEnv; repeat' (first | rfl | split | simp)
@[simp] theorem applyEnv_rom (s : State) : (applyEnv s).rom = s.rom := by
  unfold applyEnv; repeat' (first | rfl | split | simp)
@[simp] theorem applyEnv_draws (s : State) : (applyEnv s).draws = s.draws := by
  unfold applyEnv; repeat' (first | rfl | split | simp)
@[simp] theorem applyEnv_params (s : State) : (applyEnv s).params = s.params := by
  unfold applyEnv; repeat' (first | rfl | split | simp)

/-! ### Accessors -/

@[simp] theorem gpr_zero (s : State) : s.gpr 0#5 = 0#64 := rfl

/-- A general register depends on the register file only. -/
theorem gpr_congr (s t : State) (h : t.regs = s.regs) (r : Reg) : t.gpr r = s.gpr r := by
  unfold State.gpr; simp only [h]

theorem cop0_congr (s t : State) (h : t.cp0 = s.cp0) (r : Reg) : t.cop0 r = s.cop0 r := by
  unfold State.cop0; simp only [h]

theorem slot_congr (s t : State) (h : t.slots = s.slots) (n : Reg) : t.slot n = s.slot n := by
  unfold State.slot; simp only [h]

/-- Reading a general register after a write (10_state.md R41). -/
theorem gpr_setGpr (s : State) (r q : Reg) (v : Word) :
    (s.setGpr r v).gpr q = if q = r ∧ r ≠ 0#5 then v else s.gpr q := by
  unfold State.gpr State.setGpr
  by_cases hr : r = 0#5
  · simp [hr]
  · by_cases hq : q = 0#5
    · subst hq; simp [hr, Ne.symm hr]
    · by_cases h : q = r
      · subst h; simp [hr]
      · have : r.toNat ≠ q.toNat := fun e => h (BitVec.eq_of_toNat_eq e.symm)
        simp [hr, hq, h, Vector.getElem_set_ne _ _ this]

@[simp] theorem gpr_setGpr_same (s : State) (r : Reg) (v : Word) (h : r ≠ 0#5) : (s.setGpr r v).gpr r = v := by
  simp [gpr_setGpr, h]

theorem gpr_setGpr_other (s : State) (r q : Reg) (v : Word) (h : q ≠ r) : (s.setGpr r v).gpr q = s.gpr q := by
  simp [gpr_setGpr, h]

/-- Reading a COP0 cell after a write. -/
theorem cop0_setCop0 (s : State) (r q : Reg) (v : Word32) :
    (s.setCop0 r v).cop0 q = if q = r then v else s.cop0 q := by
  unfold State.cop0 State.setCop0
  by_cases h : q = r
  · subst h; simp
  · have : r.toNat ≠ q.toNat := fun e => h (BitVec.eq_of_toNat_eq e.symm)
    simp [h, Vector.getElem_set_ne _ _ this]

@[simp] theorem cop0_setCop0_same (s : State) (r : Reg) (v : Word32) : (s.setCop0 r v).cop0 r = v := by
  simp [cop0_setCop0]

theorem cop0_setCop0_other (s : State) (r q : Reg) (v : Word32) (h : q ≠ r) :
    (s.setCop0 r v).cop0 q = s.cop0 q := by
  simp [cop0_setCop0, h]

/-- Reading a COP1 slot after a write. -/
theorem slot_setSlot (s : State) (n q : Reg) (v : Word) :
    (s.setSlot n v).slot q = if q = n then v else s.slot q := by
  unfold State.slot State.setSlot
  by_cases h : q = n
  · subst h; simp
  · have : n.toNat ≠ q.toNat := fun e => h (BitVec.eq_of_toNat_eq e.symm)
    simp [h, Vector.getElem_set_ne _ _ this]

@[simp] theorem slot_setSlot_same (s : State) (n : Reg) (v : Word) : (s.setSlot n v).slot n = v := by
  simp [slot_setSlot]

@[simp] theorem cop0_setGpr (s : State) (r : Reg) (v : Word) (q : Reg) : (s.setGpr r v).cop0 q = s.cop0 q :=
  cop0_congr s _ (by simp) q
@[simp] theorem slot_setGpr (s : State) (r : Reg) (v : Word) (q : Reg) : (s.setGpr r v).slot q = s.slot q :=
  slot_congr s _ (by simp) q
@[simp] theorem status_setGpr (s : State) (r : Reg) (v : Word) : (s.setGpr r v).status = s.status := cop0_congr s _ (by simp) _
@[simp] theorem cause_setGpr (s : State) (r : Reg) (v : Word) : (s.setGpr r v).cause = s.cause := cop0_congr s _ (by simp) _
@[simp] theorem gpr_setHi (s : State) (v : Word) (q : Reg) : (s.setHi v).gpr q = s.gpr q :=
  gpr_congr s _ (by simp) q
@[simp] theorem cop0_setHi (s : State) (v : Word) (q : Reg) : (s.setHi v).cop0 q = s.cop0 q :=
  cop0_congr s _ (by simp) q
@[simp] theorem slot_setHi (s : State) (v : Word) (q : Reg) : (s.setHi v).slot q = s.slot q :=
  slot_congr s _ (by simp) q
@[simp] theorem status_setHi (s : State) (v : Word) : (s.setHi v).status = s.status := cop0_congr s _ (by simp) _
@[simp] theorem cause_setHi (s : State) (v : Word) : (s.setHi v).cause = s.cause := cop0_congr s _ (by simp) _
@[simp] theorem gpr_setLo (s : State) (v : Word) (q : Reg) : (s.setLo v).gpr q = s.gpr q :=
  gpr_congr s _ (by simp) q
@[simp] theorem cop0_setLo (s : State) (v : Word) (q : Reg) : (s.setLo v).cop0 q = s.cop0 q :=
  cop0_congr s _ (by simp) q
@[simp] theorem slot_setLo (s : State) (v : Word) (q : Reg) : (s.setLo v).slot q = s.slot q :=
  slot_congr s _ (by simp) q
@[simp] theorem status_setLo (s : State) (v : Word) : (s.setLo v).status = s.status := cop0_congr s _ (by simp) _
@[simp] theorem cause_setLo (s : State) (v : Word) : (s.setLo v).cause = s.cause := cop0_congr s _ (by simp) _
@[simp] theorem gpr_setHiLo (s : State) (h l : Word) (q : Reg) : (s.setHiLo h l).gpr q = s.gpr q :=
  gpr_congr s _ (by simp) q
@[simp] theorem cop0_setHiLo (s : State) (h l : Word) (q : Reg) : (s.setHiLo h l).cop0 q = s.cop0 q :=
  cop0_congr s _ (by simp) q
@[simp] theorem slot_setHiLo (s : State) (h l : Word) (q : Reg) : (s.setHiLo h l).slot q = s.slot q :=
  slot_congr s _ (by simp) q
@[simp] theorem status_setHiLo (s : State) (h l : Word) : (s.setHiLo h l).status = s.status := cop0_congr s _ (by simp) _
@[simp] theorem cause_setHiLo (s : State) (h l : Word) : (s.setHiLo h l).cause = s.cause := cop0_congr s _ (by simp) _
@[simp] theorem gpr_setCop0 (s : State) (r : Reg) (v : Word32) (q : Reg) : (s.setCop0 r v).gpr q = s.gpr q :=
  gpr_congr s _ (by simp) q
@[simp] theorem slot_setCop0 (s : State) (r : Reg) (v : Word32) (q : Reg) : (s.setCop0 r v).slot q = s.slot q :=
  slot_congr s _ (by simp) q
@[simp] theorem gpr_setSlot (s : State) (n : Reg) (v : Word) (q : Reg) : (s.setSlot n v).gpr q = s.gpr q :=
  gpr_congr s _ (by simp) q
@[simp] theorem cop0_setSlot (s : State) (n : Reg) (v : Word) (q : Reg) : (s.setSlot n v).cop0 q = s.cop0 q :=
  cop0_congr s _ (by simp) q
@[simp] theorem status_setSlot (s : State) (n : Reg) (v : Word) : (s.setSlot n v).status = s.status := cop0_congr s _ (by simp) _
@[simp] theorem cause_setSlot (s : State) (n : Reg) (v : Word) : (s.setSlot n v).cause = s.cause := cop0_congr s _ (by simp) _
@[simp] theorem gpr_setFpr32 (s : State) (n : Reg) (v : Word32) (q : Reg) : (s.setFpr32 n v).gpr q = s.gpr q :=
  gpr_congr s _ (by simp) q
@[simp] theorem cop0_setFpr32 (s : State) (n : Reg) (v : Word32) (q : Reg) : (s.setFpr32 n v).cop0 q = s.cop0 q :=
  cop0_congr s _ (by simp) q
@[simp] theorem status_setFpr32 (s : State) (n : Reg) (v : Word32) : (s.setFpr32 n v).status = s.status := cop0_congr s _ (by simp) _
@[simp] theorem cause_setFpr32 (s : State) (n : Reg) (v : Word32) : (s.setFpr32 n v).cause = s.cause := cop0_congr s _ (by simp) _
@[simp] theorem gpr_syncAggregate (s : State) (q : Reg) : (syncAggregate s).gpr q = s.gpr q :=
  gpr_congr s _ (by simp) q
@[simp] theorem slot_syncAggregate (s : State) (q : Reg) : (syncAggregate s).slot q = s.slot q :=
  slot_congr s _ (by simp) q
@[simp] theorem gpr_exceptionEntry (s : State) (c : BitVec 5) (ce : BitVec 2) (a : Word) (d : Bool) (q : Reg) : (exceptionEntry c ce a d s).gpr q = s.gpr q :=
  gpr_congr s _ (by simp) q
@[simp] theorem slot_exceptionEntry (s : State) (c : BitVec 5) (ce : BitVec 2) (a : Word) (d : Bool) (q : Reg) : (exceptionEntry c ce a d s).slot q = s.slot q :=
  slot_congr s _ (by simp) q
@[simp] theorem gpr_delayBranch (s : State) (t : Word) (q : Reg) : (delayBranch t s).gpr q = s.gpr q :=
  gpr_congr s _ (by simp) q
@[simp] theorem cop0_delayBranch (s : State) (t : Word) (q : Reg) : (delayBranch t s).cop0 q = s.cop0 q :=
  cop0_congr s _ (by simp) q
@[simp] theorem slot_delayBranch (s : State) (t : Word) (q : Reg) : (delayBranch t s).slot q = s.slot q :=
  slot_congr s _ (by simp) q
@[simp] theorem status_delayBranch (s : State) (t : Word) : (delayBranch t s).status = s.status := cop0_congr s _ (by simp) _
@[simp] theorem cause_delayBranch (s : State) (t : Word) : (delayBranch t s).cause = s.cause := cop0_congr s _ (by simp) _
@[simp] theorem gpr_skipDelaySlot (s : State) (q : Reg) : (skipDelaySlot s).gpr q = s.gpr q :=
  gpr_congr s _ (by simp) q
@[simp] theorem cop0_skipDelaySlot (s : State) (q : Reg) : (skipDelaySlot s).cop0 q = s.cop0 q :=
  cop0_congr s _ (by simp) q
@[simp] theorem slot_skipDelaySlot (s : State) (q : Reg) : (skipDelaySlot s).slot q = s.slot q :=
  slot_congr s _ (by simp) q
@[simp] theorem status_skipDelaySlot (s : State) : (skipDelaySlot s).status = s.status := cop0_congr s _ (by simp) _
@[simp] theorem cause_skipDelaySlot (s : State) : (skipDelaySlot s).cause = s.cause := cop0_congr s _ (by simp) _
@[simp] theorem gpr_linkTo (s : State) (pa : Nat) (q : Reg) : (linkTo pa s).gpr q = s.gpr q :=
  gpr_congr s _ (by simp) q
@[simp] theorem slot_linkTo (s : State) (pa : Nat) (q : Reg) : (linkTo pa s).slot q = s.slot q :=
  slot_congr s _ (by simp) q
@[simp] theorem gpr_haltWith (s : State) (f : Fault) (q : Reg) : (haltWith f s).gpr q = s.gpr q :=
  gpr_congr s _ (by simp) q
@[simp] theorem cop0_haltWith (s : State) (f : Fault) (q : Reg) : (haltWith f s).cop0 q = s.cop0 q :=
  cop0_congr s _ (by simp) q
@[simp] theorem slot_haltWith (s : State) (f : Fault) (q : Reg) : (haltWith f s).slot q = s.slot q :=
  slot_congr s _ (by simp) q
@[simp] theorem status_haltWith (s : State) (f : Fault) : (haltWith f s).status = s.status := cop0_congr s _ (by simp) _
@[simp] theorem cause_haltWith (s : State) (f : Fault) : (haltWith f s).cause = s.cause := cop0_congr s _ (by simp) _
@[simp] theorem gpr_setFpr64 (s : State) (n : Reg) (v : Word) (q : Reg) : (s.setFpr64 n v).gpr q = s.gpr q :=
  gpr_congr s _ (by simp) q
@[simp] theorem cop0_setFpr64 (s : State) (n : Reg) (v : Word) (q : Reg) : (s.setFpr64 n v).cop0 q = s.cop0 q :=
  cop0_congr s _ (by simp) q
@[simp] theorem status_setFpr64 (s : State) (n : Reg) (v : Word) : (s.setFpr64 n v).status = s.status := cop0_congr s _ (by simp) _
@[simp] theorem cause_setFpr64 (s : State) (n : Reg) (v : Word) : (s.setFpr64 n v).cause = s.cause := cop0_congr s _ (by simp) _
@[simp] theorem gpr_cop0Write (s : State) (r : Reg) (v : Word32) (q : Reg) : (cop0Write r v s).gpr q = s.gpr q :=
  gpr_congr s _ (by simp) q
@[simp] theorem slot_cop0Write (s : State) (r : Reg) (v : Word32) (q : Reg) : (cop0Write r v s).slot q = s.slot q :=
  slot_congr s _ (by simp) q
@[simp] theorem gpr_returnFromException (s : State) (q : Reg) : (returnFromException s).gpr q = s.gpr q :=
  gpr_congr s _ (by simp) q
@[simp] theorem slot_returnFromException (s : State) (q : Reg) : (returnFromException s).slot q = s.slot q :=
  slot_congr s _ (by simp) q
@[simp] theorem gpr_branchIf (s : State) (c : Bool) (t : Word) (q : Reg) : (branchIf c t s).gpr q = s.gpr q :=
  gpr_congr s _ (by simp) q
@[simp] theorem cop0_branchIf (s : State) (c : Bool) (t : Word) (q : Reg) : (branchIf c t s).cop0 q = s.cop0 q :=
  cop0_congr s _ (by simp) q
@[simp] theorem slot_branchIf (s : State) (c : Bool) (t : Word) (q : Reg) : (branchIf c t s).slot q = s.slot q :=
  slot_congr s _ (by simp) q
@[simp] theorem status_branchIf (s : State) (c : Bool) (t : Word) : (branchIf c t s).status = s.status := cop0_congr s _ (by simp) _
@[simp] theorem cause_branchIf (s : State) (c : Bool) (t : Word) : (branchIf c t s).cause = s.cause := cop0_congr s _ (by simp) _
@[simp] theorem gpr_branchLikely (s : State) (c : Bool) (t : Word) (q : Reg) : (branchLikely c t s).gpr q = s.gpr q :=
  gpr_congr s _ (by simp) q
@[simp] theorem cop0_branchLikely (s : State) (c : Bool) (t : Word) (q : Reg) : (branchLikely c t s).cop0 q = s.cop0 q :=
  cop0_congr s _ (by simp) q
@[simp] theorem slot_branchLikely (s : State) (c : Bool) (t : Word) (q : Reg) : (branchLikely c t s).slot q = s.slot q :=
  slot_congr s _ (by simp) q
@[simp] theorem status_branchLikely (s : State) (c : Bool) (t : Word) : (branchLikely c t s).status = s.status := cop0_congr s _ (by simp) _
@[simp] theorem cause_branchLikely (s : State) (c : Bool) (t : Word) : (branchLikely c t s).cause = s.cause := cop0_congr s _ (by simp) _
@[simp] theorem gpr_setFpControl (s : State) (n : Reg) (v : Word32) (q : Reg) : (setFpControl n v s).gpr q = s.gpr q :=
  gpr_congr s _ (by simp) q
@[simp] theorem cop0_setFpControl (s : State) (n : Reg) (v : Word32) (q : Reg) : (setFpControl n v s).cop0 q = s.cop0 q :=
  cop0_congr s _ (by simp) q
@[simp] theorem slot_setFpControl (s : State) (n : Reg) (v : Word32) (q : Reg) : (setFpControl n v s).slot q = s.slot q :=
  slot_congr s _ (by simp) q
@[simp] theorem status_setFpControl (s : State) (n : Reg) (v : Word32) : (setFpControl n v s).status = s.status := cop0_congr s _ (by simp) _
@[simp] theorem cause_setFpControl (s : State) (n : Reg) (v : Word32) : (setFpControl n v s).cause = s.cause := cop0_congr s _ (by simp) _
@[simp] theorem gpr_resolveBranch (s : State) (q : Reg) : (resolveBranch s).gpr q = s.gpr q :=
  gpr_congr s _ (by simp) q
@[simp] theorem cop0_resolveBranch (s : State) (q : Reg) : (resolveBranch s).cop0 q = s.cop0 q :=
  cop0_congr s _ (by simp) q
@[simp] theorem slot_resolveBranch (s : State) (q : Reg) : (resolveBranch s).slot q = s.slot q :=
  slot_congr s _ (by simp) q
@[simp] theorem status_resolveBranch (s : State) : (resolveBranch s).status = s.status := cop0_congr s _ (by simp) _
@[simp] theorem cause_resolveBranch (s : State) : (resolveBranch s).cause = s.cause := cop0_congr s _ (by simp) _
@[simp] theorem gpr_checkInterrupts (s : State) (q : Reg) : (checkInterrupts s).gpr q = s.gpr q :=
  gpr_congr s _ (by simp) q
@[simp] theorem slot_checkInterrupts (s : State) (q : Reg) : (checkInterrupts s).slot q = s.slot q :=
  slot_congr s _ (by simp) q
@[simp] theorem gpr_timerTick (s : State) (q : Reg) : (timerTick s).gpr q = s.gpr q :=
  gpr_congr s _ (by simp) q
@[simp] theorem slot_timerTick (s : State) (q : Reg) : (timerTick s).slot q = s.slot q :=
  slot_congr s _ (by simp) q
@[simp] theorem gpr_EnvAction_act (s : State) (a : EnvAction) (q : Reg) : (a.act s).gpr q = s.gpr q :=
  gpr_congr s _ (by simp) q
@[simp] theorem slot_EnvAction_act (s : State) (a : EnvAction) (q : Reg) : (a.act s).slot q = s.slot q :=
  slot_congr s _ (by simp) q
@[simp] theorem gpr_applyEnv (s : State) (q : Reg) : (applyEnv s).gpr q = s.gpr q :=
  gpr_congr s _ (by simp) q
@[simp] theorem slot_applyEnv (s : State) (q : Reg) : (applyEnv s).slot q = s.slot q :=
  slot_congr s _ (by simp) q

end Sys2Proof.Machine
end

