-- ==== Sys2Proof/Laws/Ops.lean ====
section
/-! SUPPORT. What the shared operations over registers, the exception operations and the delayed-branch slot can do:
one lemma for each, and the frame of each update. -/

namespace Sys2Proof.Machine

/-! ### Outcomes -/

@[simp] theorem orFault_ok {α : Type} (a : α) (k : α → Result) : orFault (.ok a) k = k a := rfl
@[simp] theorem orFault_error {α : Type} (f : Fault) (k : α → Result) : orFault (.error f) k = .fault f := rfl

theorem orFault_next {α : Type} {r : Except Fault α} {k : α → Result} {t : State} (h : orFault r k = .next t) :
    ∃ a, r = .ok a ∧ k a = .next t := by
  cases r with
  | ok a => exact ⟨a, rfl, h⟩
  | error f => simp at h

/-- R550: with CU1 = 1 the check passes. -/
theorem withCop1_usable {s : State} (h : Cop1Usable s) (r : Result) : withCop1 s r = r := if_pos h

/-- R550: with CU1 = 0 the check raises. -/
theorem withCop1_unusable {s : State} (h : s.status.getLsbD 29 = false) (r : Result) :
    withCop1 s r = raiseExc ExcCode.cpU 1#2 s := by
  have : Status.cu1 s.status = false := h
  simp [withCop1, this]

/-- R275: outside a delay slot the check passes. -/
theorem controlTransfer_free {s : State} (h : NotInDelaySlot s) (r : Result) : controlTransfer s r = r := by
  simp [controlTransfer, State.inDelay, show s.pending = none from h]

theorem controlTransfer_delay {s : State} (h : s.pending ≠ none) (r : Result) :
    controlTransfer s r = .fault (.delaySlotCTI (s.pc - 4#64)) := by
  obtain ⟨p, hp⟩ := Option.ne_none_iff_exists'.1 h
  simp [controlTransfer, State.inDelay, hp, State.ia]

theorem controlTransfer_next {s t : State} {r : Result} (h : controlTransfer s r = .next t) :
    s.pending = none ∧ r = .next t := by
  cases hp : s.pending with
  | none => exact ⟨rfl, by simpa [controlTransfer, State.inDelay, hp] using h⟩
  | some p => simp [controlTransfer, State.inDelay, hp] at h

theorem withCop1_next {s t : State} {r : Result} (h : withCop1 s r = .next t) :
    (s.status.getLsbD 29 = true ∧ r = .next t) ∨
      (s.status.getLsbD 29 = false ∧ t = exceptionEntry ExcCode.cpU 1#2 s.ia s.inDelay s) := by
  unfold withCop1 at h
  split at h
  · exact .inl ⟨‹_›, h⟩
  · refine .inr ⟨Bool.eq_false_iff.2 ‹¬ _›, ?_⟩
    simpa [raiseExc] using h.symm

theorem pairOk_eq_true {s : State} {n : Reg} : s.pairOk n = true ↔ EvenWhenPaired s [n] := by
  have : s.pairOk n = (s.status.getLsbD 26 || !n.getLsbD 0) := rfl
  rw [this, Bool.or_eq_true]
  simp only [EvenWhenPaired, List.mem_singleton, forall_eq, Bool.not_eq_true']

/-- R113, R114: all the registers may be accessed. -/
theorem needPairs_even {s : State} {ns : List Reg} (h : EvenWhenPaired s ns) (r : Result) : needPairs ns s r = r := by
  have : ns.find? (fun n => !s.pairOk n) = none := by
    rw [List.find?_eq_none]
    intro n hn
    have : s.pairOk n = true := pairOk_eq_true.2 (h.imp id fun h m hm => h m (by simp_all))
    simp [this]
  simp [needPairs, this]

/-- R113, R114: the first register may not be accessed. -/
theorem needPairs_odd {s : State} {n : Reg} {ns : List Reg} (h : ¬ EvenWhenPaired s [n]) (r : Result) :
    needPairs (n :: ns) s r = .fault (.oddFprPair n) := by
  have : s.pairOk n = false := Bool.eq_false_iff.2 fun e => h (pairOk_eq_true.1 e)
  simp [needPairs, this]

/-- The first register may be accessed: the check goes on with the rest. -/
theorem needPairs_cons {s : State} {n : Reg} {ns : List Reg} (h : EvenWhenPaired s [n]) (r : Result) :
    needPairs (n :: ns) s r = needPairs ns s r := by
  have : s.pairOk n = true := pairOk_eq_true.2 h
  simp [needPairs, this]

theorem needPairs_next {s t : State} {ns : List Reg} {r : Result} (h : needPairs ns s r = .next t) : r = .next t := by
  unfold needPairs at h
  split at h
  · simp at h
  · exact h

/-! ### Frames -/

theorem Frame.refl (c : Touch) (s : State) : Frame c s s := by constructor <;> intros <;> rfl

theorem Frame.trans {c : Touch} {s t u : State} (h : Frame c s t) (k : Frame c t u) : Frame c s u where
  gprs r hr := (k.gprs r hr).trans (h.gprs r hr)
  slots r hr := (k.slots r hr).trans (h.slots r hr)
  cop0 r hr := (k.cop0 r hr).trans (h.cop0 r hr)
  hi e := (k.hi e).trans (h.hi e)
  lo e := (k.lo e).trans (h.lo e)
  fcsr e := (k.fcsr e).trans (h.fcsr e)
  llbit e := (k.llbit e).trans (h.llbit e)
  pc e := (k.pc e).trans (h.pc e)
  pending e := (k.pending e).trans (h.pending e)
  draws e := (k.draws e).trans (h.draws e)
  bytes a ha := (k.bytes a ha).trans (h.bytes a ha)
  ticks := k.ticks.trans h.ticks
  halted := k.halted.trans h.halted
  rom := k.rom.trans h.rom
  blocks := k.blocks.trans h.blocks
  miIntr := k.miIntr.trans h.miIntr
  miMask := k.miMask.trans h.miMask
  env := k.env.trans h.env
  params := k.params.trans h.params

theorem frame_setGpr {c : Touch} (s : State) (r : Reg) (v : Word) (h : r ∈ c.gprs) : Frame c s (s.setGpr r v) := by
  constructor <;> intros <;> try rfl
  rename_i q hq
  exact gpr_setGpr_other _ _ _ _ fun e => hq (e ▸ h)

theorem frame_setCop0 {c : Touch} (s : State) (r : Reg) (v : Word32) (h : r ∈ c.cop0) :
    Frame c s (s.setCop0 r v) := by
  constructor <;> intros <;> try rfl
  rename_i q hq
  exact cop0_setCop0_other _ _ _ _ fun e => hq (e ▸ h)

theorem frame_setSlot {c : Touch} (s : State) (n : Reg) (v : Word) (h : n ∈ c.slots) : Frame c s (s.setSlot n v) := by
  constructor <;> intros <;> try rfl
  rename_i q hq
  rw [slot_setSlot, if_neg]
  rintro rfl
  exact hq h

theorem frame_setFpr32 {c : Touch} (s : State) (n : Reg) (v : Word32) (h : n ∈ c.slots) :
    Frame c s (s.setFpr32 n v) := frame_setSlot s n _ h

theorem frame_setFpr64 {c : Touch} (s : State) (n : Reg) (v : Word) (h : ∀ q ∈ pairSlots s n, q ∈ c.slots) :
    Frame c s (s.setFpr64 n v) := by
  unfold State.setFpr64 State.fr
  unfold pairSlots at h
  split
  · exact frame_setSlot s n v (h n (by simp [*]))
  · exact (frame_setFpr32 s n _ (h n (by simp [*]))).trans (frame_setFpr32 _ _ _ (h _ (by simp [*])))

theorem frame_setHi {c : Touch} (s : State) (v : Word) (h : c.hi = true) : Frame c s (s.setHi v) := by
  constructor <;> intros <;> first | rfl | simp_all

theorem frame_setLo {c : Touch} (s : State) (v : Word) (h : c.lo = true) : Frame c s (s.setLo v) := by
  constructor <;> intros <;> first | rfl | simp_all

theorem frame_setHiLo {c : Touch} (s : State) (hi lo : Word) (h : c.hi = true) (l : c.lo = true) :
    Frame c s (s.setHiLo hi lo) := (frame_setHi s hi h).trans (frame_setLo _ lo l)

theorem frame_fcr31 {c : Touch} (s : State) (v : Word32) (h : c.fcsr = true) : Frame c s { s with fcr31 := v } := by
  constructor <;> intros <;> first | rfl | simp_all

theorem frame_llbit {c : Touch} (s : State) (v : Bool) (h : c.llbit = true) : Frame c s { s with llbit := v } := by
  constructor <;> intros <;> first | rfl | simp_all

theorem frame_pc {c : Touch} (s : State) (v : Word) (h : c.control = true) : Frame c s { s with pc := v } := by
  constructor <;> intros <;> first | rfl | simp_all

theorem frame_pending {c : Touch} (s : State) (v : Option Pending) (h : c.control = true) :
    Frame c s { s with pending := v } := by
  constructor <;> intros <;> first | rfl | simp_all

theorem frame_draws {c : Touch} (s : State) (v : Nat) (h : c.draws = true) : Frame c s { s with draws := v } := by
  constructor <;> intros <;> first | rfl | simp_all

theorem frame_branchIf {c : Touch} (b : Bool) (a : Word) (s : State) (h : c.control = true) :
    Frame c s (branchIf b a s) := by
  unfold branchIf; split
  · exact frame_pending s _ h
  · exact Frame.refl c s

theorem frame_branchLikely {c : Touch} (b : Bool) (a : Word) (s : State) (h : c.control = true) :
    Frame c s (branchLikely b a s) := by
  unfold branchLikely; split
  · exact frame_pending s _ h
  · exact frame_pc s _ h

theorem frame_linkTo {c : Touch} (pa : Nat) (s : State) (h : c.llbit = true) (h' : Cop0.llAddr ∈ c.cop0) :
    Frame c s (linkTo pa s) := (frame_setCop0 s _ _ h').trans (frame_llbit _ _ h)

theorem frame_exceptionEntry (code : BitVec 5) (ce : BitVec 2) (ret : Word) (d : Bool) (s : State) :
    Frame { cop0 := [12#5, 13#5, 14#5], control := true } s (exceptionEntry code ce ret d s) := by
  have h := ((frame_setCop0 (c := { cop0 := [12#5, 13#5, 14#5], control := true }) s Cop0.cause
    (Cause.entry s.cause code ce d) (by decide)).trans (frame_setCop0 _ Cop0.epc
    (low32 (if d then ret - 4#64 else ret)) (by decide))).trans (frame_setCop0 _ Cop0.status
    (Status.setExl s.status true) (by decide))
  exact (h.trans (frame_pc _ (exceptionVector (Status.bev s.status)) rfl)).trans (frame_pending _ none rfl)

/-! ### Exception entry, register by register (60_exceptions.md R710) -/

theorem exceptionEntry_cause (code : BitVec 5) (ce : BitVec 2) (ret : Word) (d : Bool) (s : State) :
    (exceptionEntry code ce ret d s).cause = Cause.entry s.cause code ce d := by
  show (((s.setCop0 _ _).setCop0 _ _).setCop0 _ _).cop0 Cop0.cause = _
  rw [cop0_setCop0_other _ _ _ _ (by decide), cop0_setCop0_other _ _ _ _ (by decide), cop0_setCop0_same]

theorem exceptionEntry_status (code : BitVec 5) (ce : BitVec 2) (ret : Word) (d : Bool) (s : State) :
    (exceptionEntry code ce ret d s).status = Status.setExl s.status true := by
  show (((s.setCop0 _ _).setCop0 _ _).setCop0 _ _).cop0 Cop0.status = _
  rw [cop0_setCop0_same]

theorem exceptionEntry_epc (code : BitVec 5) (ce : BitVec 2) (ret : Word) (d : Bool) (s : State) :
    (exceptionEntry code ce ret d s).cop0 Cop0.epc = low32 (if d then ret - 4#64 else ret) := by
  show (((s.setCop0 _ _).setCop0 _ _).setCop0 _ _).cop0 Cop0.epc = _
  rw [cop0_setCop0_other _ _ _ _ (by decide), cop0_setCop0_same]

/-- 60_exceptions.md R720. -/
theorem interruptTaken_iff (status cause : Word32) : interruptTaken status cause = true ↔
    status.getLsbD 0 = true ∧ status.getLsbD 1 = false ∧ status.getLsbD 2 = false ∧
      (cause &&& status) &&& 0xFF00#32 ≠ 0#32 := by
  have : interruptTaken status cause = ((status.getLsbD 0 && !status.getLsbD 1 && !status.getLsbD 2) &&
    ((cause &&& status) &&& 0xFF00#32) != 0#32) := rfl
  rw [this]
  simp only [Bool.and_eq_true, Bool.not_eq_true', bne_iff_ne, and_assoc]

/-! ### Completion -/

theorem completes_next {c : Touch} {s t : State} {P : State → Prop} (h : Frame c s t) (p : P t) :
    Completes (.next t) c s P := ⟨t, rfl, h, p⟩

theorem writesGpr_next (s : State) (r : Reg) (v : Word) : WritesGpr (.next (s.setGpr r v)) s r v := by
  refine completes_next (frame_setGpr s r v (by simp)) ?_
  by_cases h : r = 0#5
  · subst h; simp
  · simp [h]

theorem writesFpr32_next (s : State) (n : Reg) (v : Word32) : WritesFpr32 (.next (s.setFpr32 n v)) s n v :=
  completes_next (frame_setFpr32 s n v (by simp)) (by simp [State.setFpr32])

theorem writesFpr64_next (s : State) (n : Reg) (v : Word) : WritesFpr64 (.next (s.setFpr64 n v)) s n v := by
  refine completes_next (frame_setFpr64 s n v fun q hq => hq) ?_
  have hne : n ≠ n + 1#5 := by bv_omega
  unfold State.setFpr64 State.fr
  by_cases hf : Status.fr s.status = true
  · simp [hf]
  · simp only [hf, Bool.false_eq_true, if_false, State.setFpr32]
    constructor
    · rw [slot_setSlot, if_neg hne, slot_setSlot_same, BitVec.setWidth_eq_extractLsb' (by omega)]
    · rw [slot_setSlot_same, slot_setSlot, if_neg hne.symm]

end Sys2Proof.Machine
end

