-- ==== Sys2Proof/Laws/Bus.lean ====
section
/-! SUPPORT. What the shared operations over the bus can do: translation, the access checks, reads and writes of memory,
ROM and devices. -/

namespace Sys2Proof.Machine

/-! ### The aggregate bit -/

theorem syncAggregate_cause (s : State) :
    (syncAggregate s).cause = Cause.setAggregate s.cause (aggregate s.miIntr s.miMask) := by
  show (s.setCop0 _ _).cop0 Cop0.cause = _
  rw [cop0_setCop0_same]

theorem syncAggregate_cop0_other (s : State) (r : Reg) (h : r ≠ Cop0.cause) : (syncAggregate s).cop0 r = s.cop0 r :=
  cop0_setCop0_other _ _ _ _ h

theorem syncAggregate_bit (s : State) : bit (syncAggregate s).cause 10 = aggregate s.miIntr s.miMask := by
  rw [syncAggregate_cause, Cause.setAggregate, bit, getLsbD_setBit _ _ (by decide), if_pos rfl]

theorem syncAggregate_rest (s : State) : (syncAggregate s).cause &&& 0xFFFFFBFF#32 = s.cause &&& 0xFFFFFBFF#32 := by
  rw [syncAggregate_cause, Cause.setAggregate, setBit_and _ _ (by decide) _ _ (by decide)]

/-! ### What a bus write can do -/

/-- Everything that a write to memory or to a device can change: memory, the devices' register blocks, the interrupt
controller's bits, the model's draw counter, and Cause bit 10 with them. -/
structure BusEffect (s t : State) : Prop where
  frame     : Frame { cop0 := [Cop0.cause], draws := true } s
    { t with mem := s.mem, blocks := s.blocks, miIntr := s.miIntr, miMask := s.miMask }
  cause     : t.cause &&& 0xFFFFFBFF#32 = s.cause &&& 0xFFFFFBFF#32
  wf        : s.mem.wf → t.mem.wf
  blocks    : (∀ id, (s.blocks.get id).wf) → ∀ id, (t.blocks.get id).wf
  aggregate : bit s.cause 10 = Machine.aggregate s.miIntr s.miMask →
    bit t.cause 10 = Machine.aggregate t.miIntr t.miMask

theorem BusEffect.refl (s : State) : BusEffect s s := ⟨Frame.refl _ s, rfl, id, id, id⟩

theorem BusEffect.trans {s t u : State} (h : BusEffect s t) (k : BusEffect t u) : BusEffect s u where
  frame := by
    have hf := h.frame
    have kf := k.frame
    constructor <;> intros
    · exact (kf.gprs _ ‹_›).trans (hf.gprs _ ‹_›)
    · exact (kf.slots _ ‹_›).trans (hf.slots _ ‹_›)
    · exact (kf.cop0 _ ‹_›).trans (hf.cop0 _ ‹_›)
    · exact (kf.hi rfl).trans (hf.hi rfl)
    · exact (kf.lo rfl).trans (hf.lo rfl)
    · exact (kf.fcsr rfl).trans (hf.fcsr rfl)
    · exact (kf.llbit rfl).trans (hf.llbit rfl)
    · exact (kf.pc rfl).trans (hf.pc rfl)
    · exact (kf.pending rfl).trans (hf.pending rfl)
    · simp_all
    · rfl
    · exact kf.ticks.trans hf.ticks
    · exact kf.halted.trans hf.halted
    · exact kf.rom.trans hf.rom
    · rfl
    · rfl
    · rfl
    · exact kf.env.trans hf.env
    · exact kf.params.trans hf.params
  cause := k.cause.trans h.cause
  wf w := k.wf (h.wf w)
  blocks w := k.blocks (h.blocks w)
  aggregate a := k.aggregate (h.aggregate a)

theorem busEffect_sync (s : State) (m : Memory) (l : List RegByte) (i k : BitVec 6) (d : Nat) (hm : s.mem.wf → m.wf) :
    BusEffect s
      (syncAggregate { s with mem := m, blocks := s.blocks.setRegs l, miIntr := i, miMask := k, draws := d }) where
  frame := by
    constructor <;> intros <;> first | rfl | skip
    · rename_i r hr
      exact syncAggregate_cop0_other _ _ fun e => hr (by simp [e])
    · simp_all
  cause := syncAggregate_rest _
  wf := hm
  blocks h := Blocks.wf_setRegs _ h
  aggregate _ := syncAggregate_bit _

theorem busEffect_mem (s : State) (m : Memory) (hm : s.mem.wf → m.wf) : BusEffect s { s with mem := m } :=
  ⟨by constructor <;> intros <;> rfl, rfl, hm, id, id⟩

theorem busEffect_draws (s : State) (d : Nat) : BusEffect s { s with draws := d } :=
  ⟨by constructor <;> intros <;> first | rfl | simp_all, rfl, id, id, id⟩

theorem busEffect_deviceWrite (id : DeviceId) (len off n : Nat) (v : Word) (s : State) :
    BusEffect s (deviceWrite id len off n v s) := by
  unfold deviceWrite
  split
  · exact BusEffect.refl s
  · cases id <;> first
      | exact busEffect_sync s s.mem _ _ _ _ fun h => h
      | exact busEffect_sync s _ _ _ s.miMask _ fun h => Memory.wf_setAll _ h

theorem busEffect_deviceWriteBytes (id : DeviceId) (len off n : Nat) (v : Word) (k : Nat) (s : State) :
    BusEffect s (deviceWriteBytes id len off n v k s) := by
  induction k with
  | zero => exact BusEffect.refl s
  | succ k ih => exact ih.trans (busEffect_deviceWrite ..)

/-- What a bus write can do. -/
theorem busEffect_writeAt (n : Nat) (a : Access) (v : Word) (s : State) : BusEffect s (writeAt n a v s) := by
  unfold writeAt
  split
  · exact busEffect_mem s _ fun h => Memory.wf_writeBE _ _ _ h
  · exact BusEffect.refl s
  · split
    · exact busEffect_deviceWrite ..
    · exact busEffect_deviceWriteBytes ..

/-! ### What a bus read can do: at most draw -/

theorem deviceRead_state (id : DeviceId) (len off n : Nat) (s : State) :
    ∃ d, (deviceRead id len off n s).2 = { s with draws := d } := by
  unfold deviceRead
  split
  · exact ⟨s.draws, rfl⟩
  · exact ⟨_, rfl⟩

theorem deviceReadBytes_state (id : DeviceId) (len off n : Nat) (s : State) :
    ∃ d, (deviceReadBytes id len off n s).2 = { s with draws := d } := by
  induction n with
  | zero => exact ⟨s.draws, rfl⟩
  | succ n ih =>
    obtain ⟨d, h⟩ := ih
    obtain ⟨e, k⟩ := deviceRead_state id len (off + n) 1 (deviceReadBytes id len off n s).2
    exact ⟨e, by simp only [deviceReadBytes]; rw [k, h]⟩

theorem readAt_state {n : Nat} {a : Access} {s t : State} {v : Word} (h : readAt n a s = .ok (v, t)) :
    ∃ d, t = { s with draws := d } := by
  unfold readAt at h
  split at h
  · simp only [Except.ok.injEq, Prod.mk.injEq] at h; exact ⟨s.draws, h.2.symm⟩
  · split at h
    · simp only [Except.ok.injEq, Prod.mk.injEq] at h; exact ⟨s.draws, h.2.symm⟩
    · simp at h
  · split at h
    · rename_i id len _ _
      obtain ⟨d, k⟩ := deviceRead_state id len (a.pa - a.row.base) n s
      rw [Except.ok.injEq] at h
      exact ⟨d, by rw [← k, h]⟩
    · rename_i id len _ _
      obtain ⟨d, k⟩ := deviceReadBytes_state id len (a.pa - a.row.base) n s
      rw [Except.ok.injEq] at h
      exact ⟨d, by rw [← k, h]⟩

/-- A load changes at most the draw counter. -/
theorem load_state {n : Nat} {va : Word} {s t : State} {v : Word} (h : load n va s = .ok (v, t)) :
    ∃ d, t = { s with draws := d } := by
  unfold load at h
  split at h
  · simp at h
  · exact readAt_state h

/-- What a store can do. -/
theorem store_effect {n : Nat} {va v : Word} {s t : State} (h : store n va v s = .ok t) : BusEffect s t := by
  unfold store at h
  split at h
  · simp at h
  · rw [Except.ok.injEq] at h; exact h ▸ busEffect_writeAt ..

theorem readModifyWrite_effect {n : Nat} {va : Word} {f : Word → Word} {s t : State}
    (h : readModifyWrite n va f s = .ok t) : BusEffect s t := by
  unfold readModifyWrite at h
  split at h
  · simp at h
  · split at h
    · simp at h
    · rw [Except.ok.injEq] at h
      obtain ⟨d, rfl⟩ := readAt_state ‹_›
      exact h ▸ (busEffect_draws s d).trans (busEffect_writeAt ..)

/-! ### Device rows -/

/-- R164: a register that stores its value holds the bytes just written to it. -/
theorem byte_blocksAfter {bs : Blocks} (id : DeviceId) (off n : Nat) (v : Word) (e : DeviceEffect)
    (h : ∀ i, (bs.get i).wf) (k : Nat) (hk : k < n) (hs : Config.storesValue id (off + k) = true) :
    ((blocksAfter id off n v e bs).get id).byte (off + k) = byteBE n k v := by
  refine Blocks.byte_setRegs _ h _ _ _ (fun r hr hi ho => ?_)
    ⟨⟨id, off + k, byteBE n k v⟩, List.mem_append_left _ (List.mem_map.2 ⟨k, by simpa using hk, rfl⟩), rfl, rfl⟩
  rcases List.mem_append.1 hr with hr | hr
  · obtain ⟨j, -, rfl⟩ := List.mem_map.1 hr
    simp at ho
    simp [ho]
  · have := (List.mem_filter.1 hr).2
    simp [justStored, hi, ho, hs] at this
    omega

/-- A read inside the block. -/
theorem deviceRead_inside {id : DeviceId} {len off n : Nat} (s : State) (h : off + n ≤ len) :
    deviceRead id len off n s = (deviceAnswer id off n s, { s with draws := s.draws + 1 }) := by
  unfold deviceRead
  rw [if_neg (by omega)]

/-- R164: a byte of a device's answer that its register stores. -/
theorem byte_deviceAnswer (id : DeviceId) (off n k : Nat) (s : State) (hn : n ≤ 8) (hk : k < n)
    (hm : mappedMi id s = false) (hs : Config.storesValue id (off + k) = true) :
    (deviceAnswer id off n s).extractLsb' (8 * (n - 1 - k)) 8 = (s.block id).byte (off + k) := by
  unfold deviceAnswer
  rw [byte_bytesBE _ _ _ _ hn hk, hm]
  simp [blockByte, hs]

/-- An aligned access to a device row passes every check. -/
theorem access_device {s : State} {n : Nat} {va : Word} {pa : Nat} {row : Region} {id : DeviceId} {len : Nat}
    (ha : va.toNat % n = 0) (ht : translateAddr va = .ok pa) (hr : route s.params.physMap pa = some row)
    (hk : row.kind = .device id len) : access n va s = .ok ⟨pa, row, true⟩ := by
  have h : aligned n va = true := by simp [aligned, ha]
  simp [access, h, ht, hr, hk, isDeviceKind]

theorem load_device {s : State} {n : Nat} {va : Word} {pa : Nat} {row : Region} {id : DeviceId} {len : Nat}
    (ha : va.toNat % n = 0) (ht : translateAddr va = .ok pa) (hr : route s.params.physMap pa = some row)
    (hk : row.kind = .device id len) : load n va s = .ok (deviceRead id len (pa - row.base) n s) := by
  simp [load, access_device ha ht hr hk, readAt, hk]

theorem store_device {s : State} {n : Nat} {va v : Word} {pa : Nat} {row : Region} {id : DeviceId} {len : Nat}
    (ha : va.toNat % n = 0) (ht : translateAddr va = .ok pa) (hr : route s.params.physMap pa = some row)
    (hk : row.kind = .device id len) :
    store n va v s = .ok (deviceWrite id len (pa - row.base) n (lowBytes n v) s) := by
  simp [store, storeAccess, access_device ha ht hr hk, writeAt, hk]

/-! ### Memory rows -/

theorem aligned_iff (n : Nat) (va : Word) : aligned n va = true ↔ va.toNat % n = 0 := by simp [aligned]

/-- An access to a memory row passes every check. -/
theorem access_memory {s : State} {n : Nat} {va : Word} {pa : Nat} (hn : 0 < n) (h : MemoryAccess s n va pa) :
    ∃ row, row.kind = .memory ∧ access n va s = .ok ⟨pa, row, aligned n va⟩ := by
  obtain ⟨ha, ht, row, hr, hk, hl⟩ := h
  refine ⟨row, hk, ?_⟩
  have hc : (!aligned n va && s.params.misaligned == .halt) = false := by
    rcases ha with ha | ha
    · simp [(aligned_iff n va).2 ha]
    · simp [ha]
  have he : pa + n - 1 ≤ row.last := by omega
  simp only [access, hc, ht, hr, he, true_or, if_true, Bool.false_eq_true, if_false]

theorem storeAccess_memory {s : State} {n : Nat} {va : Word} {pa : Nat} (hn : 0 < n) (h : MemoryAccess s n va pa) :
    ∃ row, row.kind = .memory ∧ storeAccess n va s = .ok ⟨pa, row, aligned n va⟩ := by
  obtain ⟨row, hk, ha⟩ := access_memory hn h
  exact ⟨row, hk, by simp [storeAccess, ha, hk]⟩

/-- A load from a memory row. -/
theorem load_memory {s : State} {n : Nat} {va : Word} {pa : Nat} (hn : 0 < n) (h : MemoryAccess s n va pa) :
    load n va s = .ok (s.mem.readBE pa n, s) := by
  obtain ⟨row, hk, ha⟩ := access_memory hn h
  simp [load, ha, readAt, hk]

/-- A store to a memory row. -/
theorem store_memory {s : State} {n : Nat} {va : Word} (v : Word) {pa : Nat} (hn : 0 < n) (h : MemoryAccess s n va pa) :
    store n va v s = .ok { s with mem := s.mem.writeBE pa n v } := by
  obtain ⟨row, hk, ha⟩ := storeAccess_memory hn h
  simp [store, ha, writeAt, hk]

/-- Part of a unit in a memory row. -/
theorem readModifyWrite_memory {s : State} {n : Nat} {va : Word} (f : Word → Word) {pa : Nat} (hn : 0 < n)
    (h : MemoryAccess s n va pa) :
    readModifyWrite n va f s = .ok { s with mem := s.mem.writeBE pa n (f (s.mem.readBE pa n)) } := by
  obtain ⟨row, hk, ha⟩ := storeAccess_memory hn h
  simp [readModifyWrite, ha, readAt, writeAt, hk]

theorem frame_writeBE {c : Touch} (s : State) (pa n : Nat) (v : Word) (hm : s.mem.wf) (h : c.bytes = (pa, n)) :
    Frame c s { s with mem := s.mem.writeBE pa n v } := by
  constructor <;> intros <;> try rfl
  rename_i a ha
  exact Memory.byte_writeBE_other _ _ _ hm _ (by simpa [h] using ha)

end Sys2Proof.Machine
end

