-- ==== Sys2Proof/Laws/Operands.lean ====
section
/-! SUPPORT. Sign extension, the low half of a register, HI and LO widths, immediates. -/

namespace Sys2Proof.Machine

/-- The low half of a sign-extended word is the word. -/
@[simp] theorem low32_sext32 (v : Word32) : low32 (sext32 v) = v := by
  unfold low32 sext32
  apply BitVec.eq_of_getLsbD_eq
  intro i hi
  rw [BitVec.getLsbD_setWidth, BitVec.getLsbD_signExtend]
  simp [hi, Nat.lt_trans hi (by decide : 32 < 64)]

@[simp] theorem low32_add (a b : Word) : low32 (a + b) = low32 a + low32 b := by
  unfold low32; exact BitVec.setWidth_add _ _ (by decide)

@[simp] theorem low32_sub (a b : Word) : low32 (a - b) = low32 a - low32 b := by
  unfold low32; bv_omega

@[simp] theorem low32_setWidth (v : Word32) : low32 (v.setWidth 64) = v := by
  unfold low32
  apply BitVec.eq_of_getLsbD_eq
  intro i hi
  simp [hi]

/-- R47: truncating twice is truncating once. -/
@[simp] theorem trunc_trunc (w : HiLoWidth) (v : Word) : HiLo.trunc w (HiLo.trunc w v) = HiLo.trunc w v := by
  cases w <;> simp [HiLo.trunc]

@[simp] theorem trunc_zero (w : HiLoWidth) : HiLo.trunc w 0#64 = 0#64 := by cases w <;> rfl

/-- R47: reading back a written value gives its low `HILO_W` bits, sign-extended. -/
theorem extend_trunc (w : HiLoWidth) (v : Word) :
    HiLo.extend w (HiLo.trunc w v) = match w with | .w32 => sext32 (low32 v) | .w64 => v := by
  cases w <;> simp [HiLo.trunc, HiLo.extend]

/-- A sign-extended integer is that integer modulo 2^64. -/
theorem sext32_ofInt (i : Int) (h : -2 ^ 31 ≤ i) (h' : i < 2 ^ 31) :
    sext32 (BitVec.ofInt 32 i) = BitVec.ofInt 64 i := by
  apply BitVec.eq_of_toInt_eq
  rw [sext32, BitVec.toInt_signExtend_of_le (by decide), BitVec.toInt_ofInt, BitVec.toInt_ofInt,
    Int.bmod_eq_of_le (by omega) (by omega), Int.bmod_eq_of_le (by omega) (by omega)]

theorem toInt_sext32 (v : Word32) : (sext32 v).toInt = v.toInt := BitVec.toInt_signExtend_of_le (by decide)

theorem toInt_immS (imm : Half) : (immS imm).toInt = imm.toInt := BitVec.toInt_signExtend_of_le (by decide)

end Sys2Proof.Machine
end

