-- ==== Sys2Proof/Laws/Cycle.lean ====
section
/-! SUPPORT. What one step does, taken apart: fetch, decode, execute, the delayed branch. -/

namespace Sys2Proof.Machine

/-- The four bytes of a big-endian word in memory. -/
theorem low32_readBE (m : Memory) (pa : Nat) :
    low32 (m.readBE pa 4) = wordOfBytes (m.byte pa) (m.byte (pa + 1)) (m.byte (pa + 2)) (m.byte (pa + 3)) := by
  apply BitVec.eq_of_getLsbD_eq
  intro j hj
  unfold low32 Memory.readBE wordOfBytes
  rw [BitVec.getLsbD_setWidth, getLsbD_bytesBE _ _ _ (by decide)]
  simp only [BitVec.getLsbD_append]
  interval_cases j <;> simp

/-- A fetch from a memory row. -/
theorem fetch_memory {s : State} {pa : Nat} (ha : s.pc.toNat % 4 = 0) (hm : MemoryAccess s 4 s.pc pa) :
    fetch s = .ok (low32 (s.mem.readBE pa 4), { s with pc := s.pc + 4#64 }) := by
  unfold fetch
  rw [if_pos ((aligned_iff _ _).2 ha), load_memory (by decide) hm]

/-- A fetch changes pc and at most the draw counter. -/
theorem fetch_state {s t : State} {w : Word32} (h : fetch s = .ok (w, t)) :
    ∃ d, t = { s with draws := d, pc := s.pc + 4#64 } := by
  unfold fetch at h
  split at h
  · split at h
    · cases h
    · obtain ⟨d, rfl⟩ := load_state ‹_›
      simp only [Except.ok.injEq, Prod.mk.injEq] at h
      exact ⟨d, h.2.symm⟩
  · cases h

theorem runWord_next {w : Word32} {s t : State} (h : runWord w s = .next t) :
    ∃ i u, decode w = .ok i ∧ implemented s.params i = true ∧ exec i s = .next u ∧ t = resolveBranch u := by
  unfold runWord at h
  split at h
  · cases h
  · split at h
    · split at h
      · exact ⟨_, _, ‹_›, ‹_›, ‹_›, (Host.Outcome.next.inj h).symm⟩
      · cases h
      · cases h
    · cases h

/-- What a step that answers a next state did. -/
theorem step_next {s t : State} (h : step s = .next t) :
    s.halted = none ∧ ∃ w u i v, fetch (prefetch s) = .ok (w, u) ∧ decode w = .ok i ∧
      implemented u.params i = true ∧ exec i u = .next v ∧ t = resolveBranch v := by
  unfold step at h
  split at h
  · cases h
  · refine ⟨‹_›, ?_⟩
    unfold cycle at h
    split at h
    · rename_i hc
      split at hc
      · cases hc
      · obtain ⟨i, v, h1, h2, h3, h4⟩ := runWord_next hc
        exact ⟨_, _, i, v, ‹_›, h1, h2, h3, (Host.Outcome.next.inj h).symm.trans h4⟩
    · cases h
    · cases h

/-- What a step does when the fetch and the decoding succeed and the row is implemented. -/
theorem step_of_fetch {s u : State} {w : Word32} {i : Instr} (hh : s.halted = none)
    (hf : fetch (prefetch s) = .ok (w, u)) (hd : decode w = .ok i) (hi : implemented u.params i = true) :
    (∀ t, exec i u = .next t → step s = .next (resolveBranch t)) ∧
      (∀ f, exec i u = .fault f → step s = .fault f) ∧ ∀ r, exec i u = .refused r → step s = .refused r := by
  unfold step cycle
  rw [hh]
  simp only [hf, runWord, hd, hi, if_true]
  refine ⟨fun t h => by rw [h], fun f h => by rw [h], fun r h => by rw [h]⟩

/-! ### The phases before the fetch -/

@[simp] theorem prefetch_params (s : State) : (prefetch s).params = s.params := by simp [prefetch]
@[simp] theorem prefetch_mem (s : State) : (prefetch s).mem = s.mem := by simp [prefetch]
@[simp] theorem prefetch_ticks (s : State) : (prefetch s).ticks = s.ticks + 1#64 := by
  unfold prefetch timerTick
  split <;> simp [countTick]

/-- R271: what is left of the delayed branch after the step. -/
theorem resolveBranch_none {s : State} (h : s.pending = none) : resolveBranch s = s := by simp [resolveBranch, h]

theorem resolveBranch_two {s : State} {a : Word} (h : s.pending = some ⟨a, .two⟩) :
    resolveBranch s = { s with pending := some ⟨a, .one⟩ } := by simp [resolveBranch, h]

theorem resolveBranch_one {s : State} {a : Word} (h : s.pending = some ⟨a, .one⟩) :
    resolveBranch s = { s with pc := a, pending := none } := by simp [resolveBranch, h]

end Sys2Proof.Machine
end

