-- ==== Sys2Proof/Laws/Decode.lean ====
section
/-! SUPPORT. The fields of assembled words, what a mask leaves of them, and the bytes of a word. -/

namespace Sys2Proof

theorem append_and {m n : Nat} (a b : BitVec m) (c d : BitVec n) : (a ++ c) &&& (b ++ d) = (a &&& b) ++ (c &&& d) := by
  apply BitVec.eq_of_getLsbD_eq
  intro i hi
  simp only [BitVec.getLsbD_and, BitVec.getLsbD_append]
  split <;> rfl

section encR
variable (op : BitVec 6) (rs rt rd sa : BitVec 5) (fn : BitVec 6)

@[simp] theorem op_encR : Field.op (encR op rs rt rd sa fn) = op := by
  unfold Field.op encR
  apply BitVec.eq_of_getLsbD_eq
  intro i hi
  simp only [BitVec.getLsbD_extractLsb', BitVec.getLsbD_append, hi, decide_true, Bool.true_and]
  grind

@[simp] theorem rs_encR : Field.rs (encR op rs rt rd sa fn) = rs := by
  unfold Field.rs encR
  apply BitVec.eq_of_getLsbD_eq
  intro i hi
  simp only [BitVec.getLsbD_extractLsb', BitVec.getLsbD_append, hi, decide_true, Bool.true_and]
  grind

@[simp] theorem rt_encR : Field.rt (encR op rs rt rd sa fn) = rt := by
  unfold Field.rt encR
  apply BitVec.eq_of_getLsbD_eq
  intro i hi
  simp only [BitVec.getLsbD_extractLsb', BitVec.getLsbD_append, hi, decide_true, Bool.true_and]
  grind

@[simp] theorem rd_encR : Field.rd (encR op rs rt rd sa fn) = rd := by
  unfold Field.rd encR
  apply BitVec.eq_of_getLsbD_eq
  intro i hi
  simp only [BitVec.getLsbD_extractLsb', BitVec.getLsbD_append, hi, decide_true, Bool.true_and]
  grind

@[simp] theorem sa_encR : Field.sa (encR op rs rt rd sa fn) = sa := by
  unfold Field.sa encR
  apply BitVec.eq_of_getLsbD_eq
  intro i hi
  simp only [BitVec.getLsbD_extractLsb', BitVec.getLsbD_append, hi, decide_true, Bool.true_and]
  grind

@[simp] theorem funct_encR : Field.funct (encR op rs rt rd sa fn) = fn := by
  unfold Field.funct encR
  apply BitVec.eq_of_getLsbD_eq
  intro i hi
  simp only [BitVec.getLsbD_extractLsb', BitVec.getLsbD_append, hi, decide_true, Bool.true_and]
  grind

theorem encR_mask_FC00003F : encR op rs rt rd sa fn &&& 0xFC00003F#32 = encR op 0#5 0#5 0#5 0#5 fn := by
  have h : 0xFC00003F#32 = encR (BitVec.allOnes 6) 0#5 0#5 0#5 0#5 (BitVec.allOnes 6) := by decide
  rw [h]
  unfold encR
  rw [append_and, append_and, append_and, append_and, append_and]
  simp only [BitVec.and_allOnes, BitVec.and_zero]

theorem encR_mask_FFE0003F : encR op rs rt rd sa fn &&& 0xFFE0003F#32 = encR op rs 0#5 0#5 0#5 fn := by
  have h : 0xFFE0003F#32 = encR (BitVec.allOnes 6) (BitVec.allOnes 5) 0#5 0#5 0#5 (BitVec.allOnes 6) := by decide
  rw [h]
  unfold encR
  rw [append_and, append_and, append_and, append_and, append_and]
  simp only [BitVec.and_allOnes, BitVec.and_zero]

theorem encR_mask_FFE00000 : encR op rs rt rd sa fn &&& 0xFFE00000#32 = encR op rs 0#5 0#5 0#5 0#6 := by
  have h : 0xFFE00000#32 = encR (BitVec.allOnes 6) (BitVec.allOnes 5) 0#5 0#5 0#5 0#6 := by decide
  rw [h]
  unfold encR
  rw [append_and, append_and, append_and, append_and, append_and]
  simp only [BitVec.and_allOnes, BitVec.and_zero]

end encR

section encI
variable (op : BitVec 6) (rs rt : BitVec 5) (imm : Half)

@[simp] theorem op_encI : Field.op (encI op rs rt imm) = op := by
  unfold Field.op encI
  apply BitVec.eq_of_getLsbD_eq
  intro i hi
  simp only [BitVec.getLsbD_extractLsb', BitVec.getLsbD_append, hi, decide_true, Bool.true_and]
  grind

@[simp] theorem rs_encI : Field.rs (encI op rs rt imm) = rs := by
  unfold Field.rs encI
  apply BitVec.eq_of_getLsbD_eq
  intro i hi
  simp only [BitVec.getLsbD_extractLsb', BitVec.getLsbD_append, hi, decide_true, Bool.true_and]
  grind

@[simp] theorem rt_encI : Field.rt (encI op rs rt imm) = rt := by
  unfold Field.rt encI
  apply BitVec.eq_of_getLsbD_eq
  intro i hi
  simp only [BitVec.getLsbD_extractLsb', BitVec.getLsbD_append, hi, decide_true, Bool.true_and]
  grind

@[simp] theorem imm_encI : Field.imm (encI op rs rt imm) = imm := by
  unfold Field.imm encI
  apply BitVec.eq_of_getLsbD_eq
  intro i hi
  simp only [BitVec.getLsbD_extractLsb', BitVec.getLsbD_append, hi, decide_true, Bool.true_and]
  grind

theorem encI_mask_FC000000 : encI op rs rt imm &&& 0xFC000000#32 = encI op 0#5 0#5 0#16 := by
  have h : 0xFC000000#32 = encI (BitVec.allOnes 6) 0#5 0#5 0#16 := by decide
  rw [h]
  unfold encI
  rw [append_and, append_and, append_and]
  simp only [BitVec.and_allOnes, BitVec.and_zero]

theorem encI_mask_FC1F0000 : encI op rs rt imm &&& 0xFC1F0000#32 = encI op 0#5 rt 0#16 := by
  have h : 0xFC1F0000#32 = encI (BitVec.allOnes 6) 0#5 (BitVec.allOnes 5) 0#16 := by decide
  rw [h]
  unfold encI
  rw [append_and, append_and, append_and]
  simp only [BitVec.and_allOnes, BitVec.and_zero]

theorem encI_mask_FFFF0000 : encI op rs rt imm &&& 0xFFFF0000#32 = encI op rs rt 0#16 := by
  have h : 0xFFFF0000#32 = encI (BitVec.allOnes 6) (BitVec.allOnes 5) (BitVec.allOnes 5) 0#16 := by decide
  rw [h]
  unfold encI
  rw [append_and, append_and, append_and]
  simp only [BitVec.and_allOnes, BitVec.and_zero]

end encI

section encJ
variable (op : BitVec 6) (target : BitVec 26)

@[simp] theorem op_encJ : Field.op (encJ op target) = op := by
  unfold Field.op encJ
  apply BitVec.eq_of_getLsbD_eq
  intro i hi
  simp only [BitVec.getLsbD_extractLsb', BitVec.getLsbD_append, hi, decide_true, Bool.true_and]
  grind

@[simp] theorem target_encJ : Field.target (encJ op target) = target := by
  unfold Field.target encJ
  apply BitVec.eq_of_getLsbD_eq
  intro i hi
  simp only [BitVec.getLsbD_extractLsb', BitVec.getLsbD_append, hi, decide_true, Bool.true_and]
  grind

theorem encJ_mask_FC000000 : encJ op target &&& 0xFC000000#32 = encJ op 0#26 := by
  have h : 0xFC000000#32 = encJ (BitVec.allOnes 6) 0#26 := by decide
  rw [h]
  unfold encJ
  rw [append_and]
  simp only [BitVec.and_allOnes, BitVec.and_zero]

end encJ

section encCode
variable (op : BitVec 6) (code : BitVec 20) (fn : BitVec 6)

@[simp] theorem op_encCode : Field.op (encCode op code fn) = op := by
  unfold Field.op encCode
  apply BitVec.eq_of_getLsbD_eq
  intro i hi
  simp only [BitVec.getLsbD_extractLsb', BitVec.getLsbD_append, hi, decide_true, Bool.true_and]
  grind

@[simp] theorem code_encCode : Field.code (encCode op code fn) = code := by
  unfold Field.code encCode
  apply BitVec.eq_of_getLsbD_eq
  intro i hi
  simp only [BitVec.getLsbD_extractLsb', BitVec.getLsbD_append, hi, decide_true, Bool.true_and]
  grind

@[simp] theorem funct_encCode : Field.funct (encCode op code fn) = fn := by
  unfold Field.funct encCode
  apply BitVec.eq_of_getLsbD_eq
  intro i hi
  simp only [BitVec.getLsbD_extractLsb', BitVec.getLsbD_append, hi, decide_true, Bool.true_and]
  grind

theorem encCode_mask_FC00003F : encCode op code fn &&& 0xFC00003F#32 = encCode op 0#20 fn := by
  have h : 0xFC00003F#32 = encCode (BitVec.allOnes 6) 0#20 (BitVec.allOnes 6) := by decide
  rw [h]
  unfold encCode
  rw [append_and, append_and]
  simp only [BitVec.and_allOnes, BitVec.and_zero]

end encCode

section encTrap
variable (op : BitVec 6) (rs rt : BitVec 5) (code : BitVec 10) (fn : BitVec 6)

@[simp] theorem op_encTrap : Field.op (encTrap op rs rt code fn) = op := by
  unfold Field.op encTrap
  apply BitVec.eq_of_getLsbD_eq
  intro i hi
  simp only [BitVec.getLsbD_extractLsb', BitVec.getLsbD_append, hi, decide_true, Bool.true_and]
  grind

@[simp] theorem rs_encTrap : Field.rs (encTrap op rs rt code fn) = rs := by
  unfold Field.rs encTrap
  apply BitVec.eq_of_getLsbD_eq
  intro i hi
  simp only [BitVec.getLsbD_extractLsb', BitVec.getLsbD_append, hi, decide_true, Bool.true_and]
  grind

@[simp] theorem rt_encTrap : Field.rt (encTrap op rs rt code fn) = rt := by
  unfold Field.rt encTrap
  apply BitVec.eq_of_getLsbD_eq
  intro i hi
  simp only [BitVec.getLsbD_extractLsb', BitVec.getLsbD_append, hi, decide_true, Bool.true_and]
  grind

@[simp] theorem trapCode_encTrap : Field.trapCode (encTrap op rs rt code fn) = code := by
  unfold Field.trapCode encTrap
  apply BitVec.eq_of_getLsbD_eq
  intro i hi
  simp only [BitVec.getLsbD_extractLsb', BitVec.getLsbD_append, hi, decide_true, Bool.true_and]
  grind

@[simp] theorem funct_encTrap : Field.funct (encTrap op rs rt code fn) = fn := by
  unfold Field.funct encTrap
  apply BitVec.eq_of_getLsbD_eq
  intro i hi
  simp only [BitVec.getLsbD_extractLsb', BitVec.getLsbD_append, hi, decide_true, Bool.true_and]
  grind

theorem encTrap_mask_FC00003F : encTrap op rs rt code fn &&& 0xFC00003F#32 = encTrap op 0#5 0#5 0#10 fn := by
  have h : 0xFC00003F#32 = encTrap (BitVec.allOnes 6) 0#5 0#5 0#10 (BitVec.allOnes 6) := by decide
  rw [h]
  unfold encTrap
  rw [append_and, append_and, append_and, append_and]
  simp only [BitVec.and_allOnes, BitVec.and_zero]

end encTrap

/-- The bytes of a word, put together again, are the word. -/
theorem wordOfBytes_bytes (w : Word32) :
    wordOfBytes (w.extractLsb' 24 8) (w.extractLsb' 16 8) (w.extractLsb' 8 8) (w.extractLsb' 0 8) = w := by
  unfold wordOfBytes
  apply BitVec.eq_of_getLsbD_eq
  intro i hi
  simp only [BitVec.getLsbD_extractLsb', BitVec.getLsbD_append]
  grind

/-- Decoding the bytes of a word is decoding the word (30_encoding.md R200). -/
theorem decodeBytes_bytesOfWord (w : Word32) (i : Instr) (h : decode w = .ok i) :
    decodeBytes (bytesOfWord w) = .ok (i, []) := by
  simp [decodeBytes, bytesOfWord, wordOfBytes_bytes, h]

end Sys2Proof
end

