-- ==== Sys2Proof/Laws/Exec.lean ====
section
/-! SUPPORT. What an instruction can do, said once: the effect of every meaning that answers a next state, by the
writers that Safety.lean names. -/

namespace Sys2Proof.Machine

/-! ### The shared forms of the meanings -/

theorem loadGpr_next {n : Nat} {ext : Word → Word} {base rt : Reg} {off : Half} {s t : State}
    (h : loadGpr n ext base rt off s = .next t) : ∃ d v, t = ({ s with draws := d } : State).setGpr rt v := by
  obtain ⟨⟨v, u⟩, h1, h2⟩ := orFault_next h
  obtain ⟨d, rfl⟩ := load_state h1
  exact ⟨d, _, (Host.Outcome.next.inj h2).symm⟩

theorem loadPart_next {n : Nat} {merge : Nat → Word → Word → Word} {base rt : Reg} {off : Half} {s t : State}
    (h : loadPart n merge base rt off s = .next t) : ∃ d v, t = ({ s with draws := d } : State).setGpr rt v := by
  obtain ⟨⟨v, u⟩, h1, h2⟩ := orFault_next h
  obtain ⟨d, rfl⟩ := load_state h1
  exact ⟨d, _, (Host.Outcome.next.inj h2).symm⟩

theorem storeGpr_next {n : Nat} {base rt : Reg} {off : Half} {s t : State}
    (h : storeGpr n base rt off s = .next t) : BusEffect s t := by
  obtain ⟨u, h1, h2⟩ := orFault_next h
  exact Host.Outcome.next.inj h2 ▸ store_effect h1

theorem storePart_next {n : Nat} {merge : Nat → Word → Word → Word} {base rt : Reg} {off : Half} {s t : State}
    (h : storePart n merge base rt off s = .next t) : BusEffect s t := by
  obtain ⟨u, h1, h2⟩ := orFault_next h
  exact Host.Outcome.next.inj h2 ▸ readModifyWrite_effect h1

theorem loadLinked_next {n : Nat} {base rt : Reg} {off : Half} {s t : State}
    (h : loadLinked n base rt off s = .next t) :
    ∃ d v pa, t = linkTo pa (({ s with draws := d } : State).setGpr rt v) := by
  obtain ⟨a, h1, h2⟩ := orFault_next h
  obtain ⟨⟨v, u⟩, h3, h4⟩ := orFault_next h2
  obtain ⟨d, rfl⟩ := readAt_state h3
  exact ⟨d, _, _, (Host.Outcome.next.inj h4).symm⟩

theorem storeConditional_next {n : Nat} {base rt : Reg} {off : Half} {s t : State}
    (h : storeConditional n base rt off s = .next t) :
    ∃ u v, BusEffect s u ∧ t = { u.setGpr rt v with llbit := false } := by
  obtain ⟨a, h1, h2⟩ := orFault_next h
  dsimp only at h2
  split at h2
  · exact ⟨_, _, busEffect_writeAt .., (Host.Outcome.next.inj h2).symm⟩
  · exact ⟨_, _, BusEffect.refl s, (Host.Outcome.next.inj h2).symm⟩

/-- A read of a COP0 register changes at most the draw counter. -/
theorem cop0Read_state {r : Reg} {s t : State} {v : Word32} (h : cop0Read r s = .ok (v, t)) :
    ∃ d, t = { s with draws := d } := by
  unfold cop0Read at h
  split at h
  · split at h
    · cases h
    · simp only [Except.ok.injEq, Prod.mk.injEq] at h; exact ⟨_, h.2.symm⟩
  · split at h <;> (simp only [Except.ok.injEq, Prod.mk.injEq] at h; exact ⟨s.draws, h.2.symm⟩)

theorem divOverflowResult_next {lo : Word} {s t : State} (h : divOverflowResult lo s = .next t) :
    t = s.setHiLo 0#64 lo := by
  unfold divOverflowResult at h
  split at h
  · cases h
  · exact (Host.Outcome.next.inj h).symm

/-! ### Every instruction -/

/-- The instructions without an effect. -/
def noEffect (i : Instr) : Prop :=
  i = .nop ∨ (∃ c, i = .sync c) ∨ (∃ base op off, i = .cache base op off) ∨ i ∈ [Instr.tlbr, .tlbwi, .tlbwr, .tlbp]

/-- LL, LLD, SC and SCD. -/
def linkedForm (i : Instr) : Prop :=
  ∃ base rt off, i = .ll base rt off ∨ i = .lld base rt off ∨ i = .sc base rt off ∨ i = .scd base rt off

/-- The effect of an instruction that answers a next state. -/
inductive ExecEffect (i : Instr) (s : State) : State → Prop
  | nothing (h : isTrap i = true ∨ noEffect i) : ExecEffect i s s
  | gpr (d : Nat) (r : Reg) (v : Word) (h : gprDest i = some r) (k : ¬ linkedForm i) :
      ExecEffect i s (({ s with draws := d } : State).setGpr r v)
  | hilo (hi lo : Word) (h : writesHi i = true) (l : writesLo i = true) : ExecEffect i s (s.setHiLo hi lo)
  | hi (v : Word) (h : writesHi i = true) : ExecEffect i s (s.setHi v)
  | lo (v : Word) (h : writesLo i = true) : ExecEffect i s (s.setLo v)
  | jump (c : Bool) (a : Word) (h : isControlTransfer i = true) (k : i ≠ .eret) (p : s.pending = none) :
      ExecEffect i s (branchIf c a s)
  | likely (c : Bool) (a : Word) (h : isControlTransfer i = true) (k : i ≠ .eret) (p : s.pending = none) :
      ExecEffect i s (branchLikely c a s)
  | jumpLink (r : Reg) (v : Word) (c : Bool) (a : Word) (h : isControlTransfer i = true) (k : i ≠ .eret)
      (p : s.pending = none) (g : gprDest i = some r) : ExecEffect i s (branchIf c a (s.setGpr r v))
  | likelyLink (r : Reg) (v : Word) (c : Bool) (a : Word) (h : isControlTransfer i = true) (k : i ≠ .eret)
      (p : s.pending = none) (g : gprDest i = some r) : ExecEffect i s (branchLikely c a (s.setGpr r v))
  | eret (h : i = .eret) (p : s.pending = none) : ExecEffect i s (returnFromException s)
  | exception (code : BitVec 5) (ce : BitVec 2)
      (h : isTrap i = true ∨ usesCop1 i = true ∧ s.status.getLsbD 29 = false) :
      ExecEffect i s (exceptionEntry code ce s.ia s.inDelay s)
  | cop0 (rt rd : Reg) (v : Word32) (h : i = .mtc0 rt rd ∨ i = .dmtc0 rt rd) : ExecEffect i s (cop0Write rd v s)
  | fpr32 (d : Nat) (n : Reg) (v : Word32) (h : fprDest32 i = some n) :
      ExecEffect i s (({ s with draws := d } : State).setFpr32 n v)
  | fpr64 (d : Nat) (n : Reg) (v : Word) (h : fprDest64 i = some n) :
      ExecEffect i s (({ s with draws := d } : State).setFpr64 n v)
  | condition (b : Bool) (h : isCompare i = true) : ExecEffect i s { s with fcr31 := Fcsr.setCond s.fcr31 b }
  | control (rt n : Reg) (v : Word32) (h : i = .ctc1 rt n) : ExecEffect i s (setFpControl n v s)
  | store (u : State) (h : isStore i = true) (k : ¬ linkedForm i) (e : BusEffect s u) : ExecEffect i s u
  | conditional (u : State) (v : Word) (base rt : Reg) (off : Half) (h : i = .sc base rt off ∨ i = .scd base rt off)
      (e : BusEffect s u) : ExecEffect i s { u.setGpr rt v with llbit := false }
  | linked (d pa : Nat) (v : Word) (base rt : Reg) (off : Half) (h : i = .ll base rt off ∨ i = .lld base rt off) :
      ExecEffect i s (linkTo pa (({ s with draws := d } : State).setGpr rt v))

namespace ExecEffect

variable {i : Instr} {s t : State}

theorem of_gpr {r : Reg} {v : Word} (h : Host.Outcome.next (s.setGpr r v) = (.next t : Result))
    (g : gprDest i = some r) (k : ¬ linkedForm i) : ExecEffect i s t :=
  Host.Outcome.next.inj h ▸ .gpr s.draws r v g k

theorem of_hilo {hi lo : Word} (h : Host.Outcome.next (s.setHiLo hi lo) = (.next t : Result))
    (g : writesHi i = true) (l : writesLo i = true) : ExecEffect i s t := Host.Outcome.next.inj h ▸ .hilo hi lo g l

theorem of_nothing (h : Host.Outcome.next s = (.next t : Result)) (g : isTrap i = true ∨ noEffect i) :
    ExecEffect i s t := Host.Outcome.next.inj h ▸ .nothing g

theorem of_branchIf {c : Bool} {a : Word} (h : controlTransfer s (.next (branchIf c a s)) = .next t)
    (g : isControlTransfer i = true) (k : i ≠ .eret) : ExecEffect i s t :=
  have ⟨p, e⟩ := controlTransfer_next h
  Host.Outcome.next.inj e ▸ .jump c a g k p

theorem of_branchLikely {c : Bool} {a : Word} (h : controlTransfer s (.next (branchLikely c a s)) = .next t)
    (g : isControlTransfer i = true) (k : i ≠ .eret) : ExecEffect i s t :=
  have ⟨p, e⟩ := controlTransfer_next h
  Host.Outcome.next.inj e ▸ .likely c a g k p

theorem of_branchIfLink {r : Reg} {v : Word} {c : Bool} {a : Word}
    (h : controlTransfer s (.next (branchIf c a (s.setGpr r v))) = .next t)
    (g : isControlTransfer i = true) (k : i ≠ .eret) (l : gprDest i = some r) : ExecEffect i s t :=
  have ⟨p, e⟩ := controlTransfer_next h
  Host.Outcome.next.inj e ▸ .jumpLink r v c a g k p l

theorem of_branchLikelyLink {r : Reg} {v : Word} {c : Bool} {a : Word}
    (h : controlTransfer s (.next (branchLikely c a (s.setGpr r v))) = .next t)
    (g : isControlTransfer i = true) (k : i ≠ .eret) (l : gprDest i = some r) : ExecEffect i s t :=
  have ⟨p, e⟩ := controlTransfer_next h
  Host.Outcome.next.inj e ▸ .likelyLink r v c a g k p l

theorem of_cop1 {r : Result} (h : withCop1 s r = .next t) (u : usesCop1 i = true)
    (k : r = .next t → ExecEffect i s t) : ExecEffect i s t := by
  rcases withCop1_next h with ⟨_, e⟩ | ⟨hc, rfl⟩
  · exact k e
  · exact .exception _ _ (.inr ⟨u, hc⟩)

theorem of_fpr32 {n : Reg} {v : Word32} (h : withCop1 s (.next (s.setFpr32 n v)) = .next t) (u : usesCop1 i = true)
    (g : fprDest32 i = some n) : ExecEffect i s t :=
  of_cop1 h u fun e => Host.Outcome.next.inj e ▸ .fpr32 s.draws n v g

theorem of_pairs32 {ns : List Reg} {n : Reg} {v : Word32}
    (h : withCop1 s (needPairs ns s (.next (s.setFpr32 n v))) = .next t) (u : usesCop1 i = true)
    (g : fprDest32 i = some n) : ExecEffect i s t :=
  of_cop1 h u fun e => Host.Outcome.next.inj (needPairs_next e) ▸ .fpr32 s.draws n v g

theorem of_pairs64 {ns : List Reg} {n : Reg} {v : Word}
    (h : withCop1 s (needPairs ns s (.next (s.setFpr64 n v))) = .next t) (u : usesCop1 i = true)
    (g : fprDest64 i = some n) : ExecEffect i s t :=
  of_cop1 h u fun e => Host.Outcome.next.inj (needPairs_next e) ▸ .fpr64 s.draws n v g

theorem of_compare32 {c : BitVec 4} {ft fs : Reg} (h : fpCondS c ft fs s = .next t) (u : usesCop1 i = true)
    (g : isCompare i = true) : ExecEffect i s t :=
  of_cop1 h u fun e => Host.Outcome.next.inj e ▸ .condition _ g

theorem of_compare64 {c : BitVec 4} {ft fs : Reg} (h : fpCondD c ft fs s = .next t) (u : usesCop1 i = true)
    (g : isCompare i = true) : ExecEffect i s t :=
  of_cop1 h u fun e => Host.Outcome.next.inj (needPairs_next e) ▸ .condition _ g

theorem of_trap {c : Bool} (h : trapIf c s = .next t) (g : isTrap i = true) : ExecEffect i s t := by
  unfold trapIf at h
  split at h
  · exact Host.Outcome.next.inj h ▸ .exception _ _ (.inl g)
  · exact of_nothing h (.inl g)

theorem of_load {n : Nat} {ext : Word → Word} {base rt : Reg} {off : Half}
    (h : loadGpr n ext base rt off s = .next t) (g : gprDest i = some rt) (k : ¬ linkedForm i) :
    ExecEffect i s t := by
  obtain ⟨d, v, rfl⟩ := loadGpr_next h
  exact .gpr d rt v g k

theorem of_loadPart {n : Nat} {merge : Nat → Word → Word → Word} {base rt : Reg} {off : Half}
    (h : loadPart n merge base rt off s = .next t) (g : gprDest i = some rt) (k : ¬ linkedForm i) :
    ExecEffect i s t := by
  obtain ⟨d, v, rfl⟩ := loadPart_next h
  exact .gpr d rt v g k

theorem of_cop0Read {rt rd : Reg}
    (h : (orFault (cop0Read rd s) fun (v, s') => .next (s'.setGpr rt (sext32 v))) = (.next t : Result))
    (g : gprDest i = some rt) (k : ¬ linkedForm i) : ExecEffect i s t := by
  obtain ⟨⟨v, u⟩, h1, h2⟩ := orFault_next h
  obtain ⟨d, rfl⟩ := cop0Read_state h1
  exact Host.Outcome.next.inj h2 ▸ .gpr d rt _ g k

end ExecEffect

/-- What a COP1 instruction can do when it answers a next state. -/
theorem exec_effect_cop1 {i : Instr} {s t : State} (u : usesCop1 i = true) (h : exec i s = .next t) :
    ExecEffect i s t := by
  cases i
  case bc1f | bc1t =>
    have ⟨p, e⟩ := controlTransfer_next h
    exact .of_cop1 e rfl fun e => Host.Outcome.next.inj e ▸ .jump _ _ rfl (by simp) p
  case bc1fl | bc1tl =>
    have ⟨p, e⟩ := controlTransfer_next h
    exact .of_cop1 e rfl fun e => Host.Outcome.next.inj e ▸ .likely _ _ rfl (by simp) p
  case lwc1 =>
    refine .of_cop1 h rfl fun e => ?_
    obtain ⟨⟨v, u⟩, h1, h2⟩ := orFault_next e
    obtain ⟨d, rfl⟩ := load_state h1
    exact Host.Outcome.next.inj h2 ▸ .fpr32 d _ _ rfl
  case ldc1 =>
    refine .of_cop1 h rfl fun e => ?_
    obtain ⟨⟨v, u⟩, h1, h2⟩ := orFault_next (needPairs_next e)
    obtain ⟨d, rfl⟩ := load_state h1
    exact Host.Outcome.next.inj h2 ▸ .fpr64 d _ _ rfl
  case swc1 =>
    refine .of_cop1 h rfl fun e => ?_
    obtain ⟨u, h1, h2⟩ := orFault_next e
    exact Host.Outcome.next.inj h2 ▸ .store u rfl (by simp [linkedForm]) (store_effect h1)
  case sdc1 =>
    refine .of_cop1 h rfl fun e => ?_
    obtain ⟨u, h1, h2⟩ := orFault_next (needPairs_next e)
    exact Host.Outcome.next.inj h2 ▸ .store u rfl (by simp [linkedForm]) (store_effect h1)
  case mfc1 | cfc1 => exact .of_cop1 h rfl fun e => .of_gpr e rfl (by simp [linkedForm])
  case dmfc1 => exact .of_cop1 h rfl fun e => .of_gpr (needPairs_next e) rfl (by simp [linkedForm])
  case ctc1 rt fs => exact .of_cop1 h rfl fun e => Host.Outcome.next.inj e ▸ .control rt fs _ rfl
  all_goals first
    | cases u; done
    | exact .of_fpr32 h rfl rfl
    | exact .of_pairs32 h rfl rfl
    | exact .of_pairs64 h rfl rfl
    | exact .of_compare32 h rfl rfl
    | exact .of_compare64 h rfl rfl

/-- What an instruction can do when it answers a next state. -/
theorem exec_effect {i : Instr} {s t : State} (h : exec i s = .next t) : ExecEffect i s t := by
  cases u : usesCop1 i
  case true => exact exec_effect_cop1 u h
  cases i
  case eret =>
    have ⟨p, e⟩ := controlTransfer_next h
    exact Host.Outcome.next.inj e ▸ .eret rfl p
  case j | jr =>
    have ⟨p, e⟩ := controlTransfer_next h
    exact Host.Outcome.next.inj e ▸ .jump true _ rfl (by simp) p
  case jal | jalr =>
    have ⟨p, e⟩ := controlTransfer_next h
    exact Host.Outcome.next.inj e ▸ .jumpLink _ _ true _ rfl (by simp) p rfl
  case beq | bne | blez | bgtz | bltz | bgez => exact .of_branchIf h rfl (by simp)
  case beql | bnel | blezl | bgtzl | bltzl | bgezl => exact .of_branchLikely h rfl (by simp)
  case bltzal | bgezal => exact .of_branchIfLink h rfl (by simp) rfl
  case bltzall | bgezall => exact .of_branchLikelyLink h rfl (by simp) rfl
  case mthi => exact Host.Outcome.next.inj h ▸ .hi _ rfl
  case mtlo => exact Host.Outcome.next.inj h ▸ .lo _ rfl
  case div | ddiv =>
    simp only [exec, execDiv, execDdiv] at h
    split at h
    · exact .of_hilo h rfl rfl
    · exact divOverflowResult_next h ▸ .hilo _ _ rfl rfl
  case mult | multu | divu | dmult | dmultu | ddivu => exact .of_hilo h rfl rfl
  case nop | sync | cache | tlbr | tlbwi | tlbwr | tlbp => exact .of_nothing h (.inr (by simp [noEffect]))
  case syscall | brk => exact Host.Outcome.next.inj h ▸ .exception _ _ (.inl rfl)
  case tge | tgeu | tlt | tltu | teq | tne | tgei | tgeiu | tlti | tltiu | teqi | tnei => exact .of_trap h rfl
  case lb | lbu | lh | lhu | lw | lwu | ld => exact .of_load h rfl (by simp [linkedForm])
  case lwl =>
    rw [exec, execLwl] at h
    exact .of_loadPart h rfl (by simp [linkedForm])
  case lwr =>
    rw [exec, execLwr] at h
    exact .of_loadPart h rfl (by simp [linkedForm])
  case ldl | ldr => exact .of_loadPart h rfl (by simp [linkedForm])
  case sb | sh | sw | sd => exact .store _ rfl (by simp [linkedForm]) (storeGpr_next h)
  case swl =>
    rw [exec, execSwl] at h
    exact .store _ rfl (by simp [linkedForm]) (storePart_next h)
  case swr =>
    rw [exec, execSwr] at h
    exact .store _ rfl (by simp [linkedForm]) (storePart_next h)
  case sdl | sdr => exact .store _ rfl (by simp [linkedForm]) (storePart_next h)
  case ll =>
    obtain ⟨d, v, pa, rfl⟩ := loadLinked_next h
    exact .linked d pa v _ _ _ (.inl rfl)
  case lld =>
    obtain ⟨d, v, pa, rfl⟩ := loadLinked_next h
    exact .linked d pa v _ _ _ (.inr rfl)
  case sc =>
    obtain ⟨u, v, e, rfl⟩ := storeConditional_next h
    exact .conditional u v _ _ _ (.inl rfl) e
  case scd =>
    obtain ⟨u, v, e, rfl⟩ := storeConditional_next h
    exact .conditional u v _ _ _ (.inr rfl) e
  case mfc0 | dmfc0 => exact .of_cop0Read h rfl (by simp [linkedForm])
  case mtc0 rt rd => exact Host.Outcome.next.inj h ▸ .cop0 rt rd _ (.inl rfl)
  case dmtc0 rt rd => exact Host.Outcome.next.inj h ▸ .cop0 rt rd _ (.inr rfl)
  all_goals first
    | cases u; done
    | exact .of_gpr h rfl (by simp [linkedForm])

end Sys2Proof.Machine
end

