-- ==== Sys2Proof/Laws/PerInstr.lean ====
section
/-! SUPPORT. One lemma for each instruction: the word that the encoder gives has the key bits of its row of
spec/opcode_table.json. -/

namespace Sys2Proof

/-- The encoder's word carries the `match` bits of the instruction's row under its `mask` (30_encoding.md R204). -/
def Laws.EncodePattern.Statement (i : Instr) : Prop := encode i &&& i.mask32 = i.match32

theorem Laws.EncodePattern.sll : ∀ rt rd sa, Laws.EncodePattern.Statement (.sll rt rd sa) := by
  intros; exact (encR_mask_FC00003F ..).trans (show _ = 0x00000000#32 by decide)
theorem Laws.EncodePattern.srl : ∀ rt rd sa, Laws.EncodePattern.Statement (.srl rt rd sa) := by
  intros; exact (encR_mask_FC00003F ..).trans (show _ = 0x00000002#32 by decide)
theorem Laws.EncodePattern.sra : ∀ rt rd sa, Laws.EncodePattern.Statement (.sra rt rd sa) := by
  intros; exact (encR_mask_FC00003F ..).trans (show _ = 0x00000003#32 by decide)
theorem Laws.EncodePattern.sllv : ∀ rs rt rd, Laws.EncodePattern.Statement (.sllv rs rt rd) := by
  intros; exact (encR_mask_FC00003F ..).trans (show _ = 0x00000004#32 by decide)
theorem Laws.EncodePattern.srlv : ∀ rs rt rd, Laws.EncodePattern.Statement (.srlv rs rt rd) := by
  intros; exact (encR_mask_FC00003F ..).trans (show _ = 0x00000006#32 by decide)
theorem Laws.EncodePattern.srav : ∀ rs rt rd, Laws.EncodePattern.Statement (.srav rs rt rd) := by
  intros; exact (encR_mask_FC00003F ..).trans (show _ = 0x00000007#32 by decide)
theorem Laws.EncodePattern.jr : ∀ rs, Laws.EncodePattern.Statement (.jr rs) := by
  intros; exact (encR_mask_FC00003F ..).trans (show _ = 0x00000008#32 by decide)
theorem Laws.EncodePattern.jalr : ∀ rs rd, Laws.EncodePattern.Statement (.jalr rs rd) := by
  intros; exact (encR_mask_FC00003F ..).trans (show _ = 0x00000009#32 by decide)
theorem Laws.EncodePattern.syscall : ∀ code, Laws.EncodePattern.Statement (.syscall code) := by
  intros; exact (encCode_mask_FC00003F ..).trans (show _ = 0x0000000C#32 by decide)
theorem Laws.EncodePattern.brk : ∀ code, Laws.EncodePattern.Statement (.brk code) := by
  intros; exact (encCode_mask_FC00003F ..).trans (show _ = 0x0000000D#32 by decide)
theorem Laws.EncodePattern.sync : ∀ stype, Laws.EncodePattern.Statement (.sync stype) := by
  intros; exact (encR_mask_FC00003F ..).trans (show _ = 0x0000000F#32 by decide)
theorem Laws.EncodePattern.mfhi : ∀ rd, Laws.EncodePattern.Statement (.mfhi rd) := by
  intros; exact (encR_mask_FC00003F ..).trans (show _ = 0x00000010#32 by decide)
theorem Laws.EncodePattern.mthi : ∀ rs, Laws.EncodePattern.Statement (.mthi rs) := by
  intros; exact (encR_mask_FC00003F ..).trans (show _ = 0x00000011#32 by decide)
theorem Laws.EncodePattern.mflo : ∀ rd, Laws.EncodePattern.Statement (.mflo rd) := by
  intros; exact (encR_mask_FC00003F ..).trans (show _ = 0x00000012#32 by decide)
theorem Laws.EncodePattern.mtlo : ∀ rs, Laws.EncodePattern.Statement (.mtlo rs) := by
  intros; exact (encR_mask_FC00003F ..).trans (show _ = 0x00000013#32 by decide)
theorem Laws.EncodePattern.dsllv : ∀ rs rt rd, Laws.EncodePattern.Statement (.dsllv rs rt rd) := by
  intros; exact (encR_mask_FC00003F ..).trans (show _ = 0x00000014#32 by decide)
theorem Laws.EncodePattern.dsrlv : ∀ rs rt rd, Laws.EncodePattern.Statement (.dsrlv rs rt rd) := by
  intros; exact (encR_mask_FC00003F ..).trans (show _ = 0x00000016#32 by decide)
theorem Laws.EncodePattern.dsrav : ∀ rs rt rd, Laws.EncodePattern.Statement (.dsrav rs rt rd) := by
  intros; exact (encR_mask_FC00003F ..).trans (show _ = 0x00000017#32 by decide)
theorem Laws.EncodePattern.mult : ∀ rs rt, Laws.EncodePattern.Statement (.mult rs rt) := by
  intros; exact (encR_mask_FC00003F ..).trans (show _ = 0x00000018#32 by decide)
theorem Laws.EncodePattern.multu : ∀ rs rt, Laws.EncodePattern.Statement (.multu rs rt) := by
  intros; exact (encR_mask_FC00003F ..).trans (show _ = 0x00000019#32 by decide)
theorem Laws.EncodePattern.div : ∀ rs rt, Laws.EncodePattern.Statement (.div rs rt) := by
  intros; exact (encR_mask_FC00003F ..).trans (show _ = 0x0000001A#32 by decide)
theorem Laws.EncodePattern.divu : ∀ rs rt, Laws.EncodePattern.Statement (.divu rs rt) := by
  intros; exact (encR_mask_FC00003F ..).trans (show _ = 0x0000001B#32 by decide)
theorem Laws.EncodePattern.dmult : ∀ rs rt, Laws.EncodePattern.Statement (.dmult rs rt) := by
  intros; exact (encR_mask_FC00003F ..).trans (show _ = 0x0000001C#32 by decide)
theorem Laws.EncodePattern.dmultu : ∀ rs rt, Laws.EncodePattern.Statement (.dmultu rs rt) := by
  intros; exact (encR_mask_FC00003F ..).trans (show _ = 0x0000001D#32 by decide)
theorem Laws.EncodePattern.ddiv : ∀ rs rt, Laws.EncodePattern.Statement (.ddiv rs rt) := by
  intros; exact (encR_mask_FC00003F ..).trans (show _ = 0x0000001E#32 by decide)
theorem Laws.EncodePattern.ddivu : ∀ rs rt, Laws.EncodePattern.Statement (.ddivu rs rt) := by
  intros; exact (encR_mask_FC00003F ..).trans (show _ = 0x0000001F#32 by decide)
theorem Laws.EncodePattern.add : ∀ rs rt rd, Laws.EncodePattern.Statement (.add rs rt rd) := by
  intros; exact (encR_mask_FC00003F ..).trans (show _ = 0x00000020#32 by decide)
theorem Laws.EncodePattern.addu : ∀ rs rt rd, Laws.EncodePattern.Statement (.addu rs rt rd) := by
  intros; exact (encR_mask_FC00003F ..).trans (show _ = 0x00000021#32 by decide)
theorem Laws.EncodePattern.sub : ∀ rs rt rd, Laws.EncodePattern.Statement (.sub rs rt rd) := by
  intros; exact (encR_mask_FC00003F ..).trans (show _ = 0x00000022#32 by decide)
theorem Laws.EncodePattern.subu : ∀ rs rt rd, Laws.EncodePattern.Statement (.subu rs rt rd) := by
  intros; exact (encR_mask_FC00003F ..).trans (show _ = 0x00000023#32 by decide)
theorem Laws.EncodePattern.and : ∀ rs rt rd, Laws.EncodePattern.Statement (.and rs rt rd) := by
  intros; exact (encR_mask_FC00003F ..).trans (show _ = 0x00000024#32 by decide)
theorem Laws.EncodePattern.or : ∀ rs rt rd, Laws.EncodePattern.Statement (.or rs rt rd) := by
  intros; exact (encR_mask_FC00003F ..).trans (show _ = 0x00000025#32 by decide)
theorem Laws.EncodePattern.xor : ∀ rs rt rd, Laws.EncodePattern.Statement (.xor rs rt rd) := by
  intros; exact (encR_mask_FC00003F ..).trans (show _ = 0x00000026#32 by decide)
theorem Laws.EncodePattern.nor : ∀ rs rt rd, Laws.EncodePattern.Statement (.nor rs rt rd) := by
  intros; exact (encR_mask_FC00003F ..).trans (show _ = 0x00000027#32 by decide)
theorem Laws.EncodePattern.slt : ∀ rs rt rd, Laws.EncodePattern.Statement (.slt rs rt rd) := by
  intros; exact (encR_mask_FC00003F ..).trans (show _ = 0x0000002A#32 by decide)
theorem Laws.EncodePattern.sltu : ∀ rs rt rd, Laws.EncodePattern.Statement (.sltu rs rt rd) := by
  intros; exact (encR_mask_FC00003F ..).trans (show _ = 0x0000002B#32 by decide)
theorem Laws.EncodePattern.dadd : ∀ rs rt rd, Laws.EncodePattern.Statement (.dadd rs rt rd) := by
  intros; exact (encR_mask_FC00003F ..).trans (show _ = 0x0000002C#32 by decide)
theorem Laws.EncodePattern.daddu : ∀ rs rt rd, Laws.EncodePattern.Statement (.daddu rs rt rd) := by
  intros; exact (encR_mask_FC00003F ..).trans (show _ = 0x0000002D#32 by decide)
theorem Laws.EncodePattern.dsub : ∀ rs rt rd, Laws.EncodePattern.Statement (.dsub rs rt rd) := by
  intros; exact (encR_mask_FC00003F ..).trans (show _ = 0x0000002E#32 by decide)
theorem Laws.EncodePattern.dsubu : ∀ rs rt rd, Laws.EncodePattern.Statement (.dsubu rs rt rd) := by
  intros; exact (encR_mask_FC00003F ..).trans (show _ = 0x0000002F#32 by decide)
theorem Laws.EncodePattern.tge : ∀ rs rt code, Laws.EncodePattern.Statement (.tge rs rt code) := by
  intros; exact (encTrap_mask_FC00003F ..).trans (show _ = 0x00000030#32 by decide)
theorem Laws.EncodePattern.tgeu : ∀ rs rt code, Laws.EncodePattern.Statement (.tgeu rs rt code) := by
  intros; exact (encTrap_mask_FC00003F ..).trans (show _ = 0x00000031#32 by decide)
theorem Laws.EncodePattern.tlt : ∀ rs rt code, Laws.EncodePattern.Statement (.tlt rs rt code) := by
  intros; exact (encTrap_mask_FC00003F ..).trans (show _ = 0x00000032#32 by decide)
theorem Laws.EncodePattern.tltu : ∀ rs rt code, Laws.EncodePattern.Statement (.tltu rs rt code) := by
  intros; exact (encTrap_mask_FC00003F ..).trans (show _ = 0x00000033#32 by decide)
theorem Laws.EncodePattern.teq : ∀ rs rt code, Laws.EncodePattern.Statement (.teq rs rt code) := by
  intros; exact (encTrap_mask_FC00003F ..).trans (show _ = 0x00000034#32 by decide)
theorem Laws.EncodePattern.tne : ∀ rs rt code, Laws.EncodePattern.Statement (.tne rs rt code) := by
  intros; exact (encTrap_mask_FC00003F ..).trans (show _ = 0x00000036#32 by decide)
theorem Laws.EncodePattern.dsll : ∀ rt rd sa, Laws.EncodePattern.Statement (.dsll rt rd sa) := by
  intros; exact (encR_mask_FC00003F ..).trans (show _ = 0x00000038#32 by decide)
theorem Laws.EncodePattern.dsrl : ∀ rt rd sa, Laws.EncodePattern.Statement (.dsrl rt rd sa) := by
  intros; exact (encR_mask_FC00003F ..).trans (show _ = 0x0000003A#32 by decide)
theorem Laws.EncodePattern.dsra : ∀ rt rd sa, Laws.EncodePattern.Statement (.dsra rt rd sa) := by
  intros; exact (encR_mask_FC00003F ..).trans (show _ = 0x0000003B#32 by decide)
theorem Laws.EncodePattern.dsll32 : ∀ rt rd sa, Laws.EncodePattern.Statement (.dsll32 rt rd sa) := by
  intros; exact (encR_mask_FC00003F ..).trans (show _ = 0x0000003C#32 by decide)
theorem Laws.EncodePattern.dsrl32 : ∀ rt rd sa, Laws.EncodePattern.Statement (.dsrl32 rt rd sa) := by
  intros; exact (encR_mask_FC00003F ..).trans (show _ = 0x0000003E#32 by decide)
theorem Laws.EncodePattern.dsra32 : ∀ rt rd sa, Laws.EncodePattern.Statement (.dsra32 rt rd sa) := by
  intros; exact (encR_mask_FC00003F ..).trans (show _ = 0x0000003F#32 by decide)
theorem Laws.EncodePattern.nop : Laws.EncodePattern.Statement .nop := by unfold Laws.EncodePattern.Statement; decide
theorem Laws.EncodePattern.bltz : ∀ rs imm, Laws.EncodePattern.Statement (.bltz rs imm) := by
  intros; exact (encI_mask_FC1F0000 ..).trans (show _ = 0x04000000#32 by decide)
theorem Laws.EncodePattern.bgez : ∀ rs imm, Laws.EncodePattern.Statement (.bgez rs imm) := by
  intros; exact (encI_mask_FC1F0000 ..).trans (show _ = 0x04010000#32 by decide)
theorem Laws.EncodePattern.bltzl : ∀ rs imm, Laws.EncodePattern.Statement (.bltzl rs imm) := by
  intros; exact (encI_mask_FC1F0000 ..).trans (show _ = 0x04020000#32 by decide)
theorem Laws.EncodePattern.bgezl : ∀ rs imm, Laws.EncodePattern.Statement (.bgezl rs imm) := by
  intros; exact (encI_mask_FC1F0000 ..).trans (show _ = 0x04030000#32 by decide)
theorem Laws.EncodePattern.tgei : ∀ rs imm, Laws.EncodePattern.Statement (.tgei rs imm) := by
  intros; exact (encI_mask_FC1F0000 ..).trans (show _ = 0x04080000#32 by decide)
theorem Laws.EncodePattern.tgeiu : ∀ rs imm, Laws.EncodePattern.Statement (.tgeiu rs imm) := by
  intros; exact (encI_mask_FC1F0000 ..).trans (show _ = 0x04090000#32 by decide)
theorem Laws.EncodePattern.tlti : ∀ rs imm, Laws.EncodePattern.Statement (.tlti rs imm) := by
  intros; exact (encI_mask_FC1F0000 ..).trans (show _ = 0x040A0000#32 by decide)
theorem Laws.EncodePattern.tltiu : ∀ rs imm, Laws.EncodePattern.Statement (.tltiu rs imm) := by
  intros; exact (encI_mask_FC1F0000 ..).trans (show _ = 0x040B0000#32 by decide)
theorem Laws.EncodePattern.teqi : ∀ rs imm, Laws.EncodePattern.Statement (.teqi rs imm) := by
  intros; exact (encI_mask_FC1F0000 ..).trans (show _ = 0x040C0000#32 by decide)
theorem Laws.EncodePattern.tnei : ∀ rs imm, Laws.EncodePattern.Statement (.tnei rs imm) := by
  intros; exact (encI_mask_FC1F0000 ..).trans (show _ = 0x040E0000#32 by decide)
theorem Laws.EncodePattern.bltzal : ∀ rs imm, Laws.EncodePattern.Statement (.bltzal rs imm) := by
  intros; exact (encI_mask_FC1F0000 ..).trans (show _ = 0x04100000#32 by decide)
theorem Laws.EncodePattern.bgezal : ∀ rs imm, Laws.EncodePattern.Statement (.bgezal rs imm) := by
  intros; exact (encI_mask_FC1F0000 ..).trans (show _ = 0x04110000#32 by decide)
theorem Laws.EncodePattern.bltzall : ∀ rs imm, Laws.EncodePattern.Statement (.bltzall rs imm) := by
  intros; exact (encI_mask_FC1F0000 ..).trans (show _ = 0x04120000#32 by decide)
theorem Laws.EncodePattern.bgezall : ∀ rs imm, Laws.EncodePattern.Statement (.bgezall rs imm) := by
  intros; exact (encI_mask_FC1F0000 ..).trans (show _ = 0x04130000#32 by decide)
theorem Laws.EncodePattern.j : ∀ target, Laws.EncodePattern.Statement (.j target) := by
  intros; exact (encJ_mask_FC000000 ..).trans (show _ = 0x08000000#32 by decide)
theorem Laws.EncodePattern.jal : ∀ target, Laws.EncodePattern.Statement (.jal target) := by
  intros; exact (encJ_mask_FC000000 ..).trans (show _ = 0x0C000000#32 by decide)
theorem Laws.EncodePattern.beq : ∀ rs rt imm, Laws.EncodePattern.Statement (.beq rs rt imm) := by
  intros; exact (encI_mask_FC000000 ..).trans (show _ = 0x10000000#32 by decide)
theorem Laws.EncodePattern.bne : ∀ rs rt imm, Laws.EncodePattern.Statement (.bne rs rt imm) := by
  intros; exact (encI_mask_FC000000 ..).trans (show _ = 0x14000000#32 by decide)
theorem Laws.EncodePattern.blez : ∀ rs imm, Laws.EncodePattern.Statement (.blez rs imm) := by
  intros; exact (encI_mask_FC000000 ..).trans (show _ = 0x18000000#32 by decide)
theorem Laws.EncodePattern.bgtz : ∀ rs imm, Laws.EncodePattern.Statement (.bgtz rs imm) := by
  intros; exact (encI_mask_FC000000 ..).trans (show _ = 0x1C000000#32 by decide)
theorem Laws.EncodePattern.addi : ∀ rs rt imm, Laws.EncodePattern.Statement (.addi rs rt imm) := by
  intros; exact (encI_mask_FC000000 ..).trans (show _ = 0x20000000#32 by decide)
theorem Laws.EncodePattern.addiu : ∀ rs rt imm, Laws.EncodePattern.Statement (.addiu rs rt imm) := by
  intros; exact (encI_mask_FC000000 ..).trans (show _ = 0x24000000#32 by decide)
theorem Laws.EncodePattern.slti : ∀ rs rt imm, Laws.EncodePattern.Statement (.slti rs rt imm) := by
  intros; exact (encI_mask_FC000000 ..).trans (show _ = 0x28000000#32 by decide)
theorem Laws.EncodePattern.sltiu : ∀ rs rt imm, Laws.EncodePattern.Statement (.sltiu rs rt imm) := by
  intros; exact (encI_mask_FC000000 ..).trans (show _ = 0x2C000000#32 by decide)
theorem Laws.EncodePattern.andi : ∀ rs rt imm, Laws.EncodePattern.Statement (.andi rs rt imm) := by
  intros; exact (encI_mask_FC000000 ..).trans (show _ = 0x30000000#32 by decide)
theorem Laws.EncodePattern.ori : ∀ rs rt imm, Laws.EncodePattern.Statement (.ori rs rt imm) := by
  intros; exact (encI_mask_FC000000 ..).trans (show _ = 0x34000000#32 by decide)
theorem Laws.EncodePattern.xori : ∀ rs rt imm, Laws.EncodePattern.Statement (.xori rs rt imm) := by
  intros; exact (encI_mask_FC000000 ..).trans (show _ = 0x38000000#32 by decide)
theorem Laws.EncodePattern.lui : ∀ rt imm, Laws.EncodePattern.Statement (.lui rt imm) := by
  intros; exact (encI_mask_FC000000 ..).trans (show _ = 0x3C000000#32 by decide)
theorem Laws.EncodePattern.beql : ∀ rs rt imm, Laws.EncodePattern.Statement (.beql rs rt imm) := by
  intros; exact (encI_mask_FC000000 ..).trans (show _ = 0x50000000#32 by decide)
theorem Laws.EncodePattern.bnel : ∀ rs rt imm, Laws.EncodePattern.Statement (.bnel rs rt imm) := by
  intros; exact (encI_mask_FC000000 ..).trans (show _ = 0x54000000#32 by decide)
theorem Laws.EncodePattern.blezl : ∀ rs imm, Laws.EncodePattern.Statement (.blezl rs imm) := by
  intros; exact (encI_mask_FC000000 ..).trans (show _ = 0x58000000#32 by decide)
theorem Laws.EncodePattern.bgtzl : ∀ rs imm, Laws.EncodePattern.Statement (.bgtzl rs imm) := by
  intros; exact (encI_mask_FC000000 ..).trans (show _ = 0x5C000000#32 by decide)
theorem Laws.EncodePattern.daddi : ∀ rs rt imm, Laws.EncodePattern.Statement (.daddi rs rt imm) := by
  intros; exact (encI_mask_FC000000 ..).trans (show _ = 0x60000000#32 by decide)
theorem Laws.EncodePattern.daddiu : ∀ rs rt imm, Laws.EncodePattern.Statement (.daddiu rs rt imm) := by
  intros; exact (encI_mask_FC000000 ..).trans (show _ = 0x64000000#32 by decide)
theorem Laws.EncodePattern.ldl : ∀ base rt offset, Laws.EncodePattern.Statement (.ldl base rt offset) := by
  intros; exact (encI_mask_FC000000 ..).trans (show _ = 0x68000000#32 by decide)
theorem Laws.EncodePattern.ldr : ∀ base rt offset, Laws.EncodePattern.Statement (.ldr base rt offset) := by
  intros; exact (encI_mask_FC000000 ..).trans (show _ = 0x6C000000#32 by decide)
theorem Laws.EncodePattern.lb : ∀ base rt offset, Laws.EncodePattern.Statement (.lb base rt offset) := by
  intros; exact (encI_mask_FC000000 ..).trans (show _ = 0x80000000#32 by decide)
theorem Laws.EncodePattern.lh : ∀ base rt offset, Laws.EncodePattern.Statement (.lh base rt offset) := by
  intros; exact (encI_mask_FC000000 ..).trans (show _ = 0x84000000#32 by decide)
theorem Laws.EncodePattern.lwl : ∀ base rt offset, Laws.EncodePattern.Statement (.lwl base rt offset) := by
  intros; exact (encI_mask_FC000000 ..).trans (show _ = 0x88000000#32 by decide)
theorem Laws.EncodePattern.lw : ∀ base rt offset, Laws.EncodePattern.Statement (.lw base rt offset) := by
  intros; exact (encI_mask_FC000000 ..).trans (show _ = 0x8C000000#32 by decide)
theorem Laws.EncodePattern.lbu : ∀ base rt offset, Laws.EncodePattern.Statement (.lbu base rt offset) := by
  intros; exact (encI_mask_FC000000 ..).trans (show _ = 0x90000000#32 by decide)
theorem Laws.EncodePattern.lhu : ∀ base rt offset, Laws.EncodePattern.Statement (.lhu base rt offset) := by
  intros; exact (encI_mask_FC000000 ..).trans (show _ = 0x94000000#32 by decide)
theorem Laws.EncodePattern.lwr : ∀ base rt offset, Laws.EncodePattern.Statement (.lwr base rt offset) := by
  intros; exact (encI_mask_FC000000 ..).trans (show _ = 0x98000000#32 by decide)
theorem Laws.EncodePattern.lwu : ∀ base rt offset, Laws.EncodePattern.Statement (.lwu base rt offset) := by
  intros; exact (encI_mask_FC000000 ..).trans (show _ = 0x9C000000#32 by decide)
theorem Laws.EncodePattern.sb : ∀ base rt offset, Laws.EncodePattern.Statement (.sb base rt offset) := by
  intros; exact (encI_mask_FC000000 ..).trans (show _ = 0xA0000000#32 by decide)
theorem Laws.EncodePattern.sh : ∀ base rt offset, Laws.EncodePattern.Statement (.sh base rt offset) := by
  intros; exact (encI_mask_FC000000 ..).trans (show _ = 0xA4000000#32 by decide)
theorem Laws.EncodePattern.swl : ∀ base rt offset, Laws.EncodePattern.Statement (.swl base rt offset) := by
  intros; exact (encI_mask_FC000000 ..).trans (show _ = 0xA8000000#32 by decide)
theorem Laws.EncodePattern.sw : ∀ base rt offset, Laws.EncodePattern.Statement (.sw base rt offset) := by
  intros; exact (encI_mask_FC000000 ..).trans (show _ = 0xAC000000#32 by decide)
theorem Laws.EncodePattern.sdl : ∀ base rt offset, Laws.EncodePattern.Statement (.sdl base rt offset) := by
  intros; exact (encI_mask_FC000000 ..).trans (show _ = 0xB0000000#32 by decide)
theorem Laws.EncodePattern.sdr : ∀ base rt offset, Laws.EncodePattern.Statement (.sdr base rt offset) := by
  intros; exact (encI_mask_FC000000 ..).trans (show _ = 0xB4000000#32 by decide)
theorem Laws.EncodePattern.swr : ∀ base rt offset, Laws.EncodePattern.Statement (.swr base rt offset) := by
  intros; exact (encI_mask_FC000000 ..).trans (show _ = 0xB8000000#32 by decide)
theorem Laws.EncodePattern.cache : ∀ base op offset, Laws.EncodePattern.Statement (.cache base op offset) := by
  intros; exact (encI_mask_FC000000 ..).trans (show _ = 0xBC000000#32 by decide)
theorem Laws.EncodePattern.ll : ∀ base rt offset, Laws.EncodePattern.Statement (.ll base rt offset) := by
  intros; exact (encI_mask_FC000000 ..).trans (show _ = 0xC0000000#32 by decide)
theorem Laws.EncodePattern.lwc1 : ∀ base ft offset, Laws.EncodePattern.Statement (.lwc1 base ft offset) := by
  intros; exact (encI_mask_FC000000 ..).trans (show _ = 0xC4000000#32 by decide)
theorem Laws.EncodePattern.lld : ∀ base rt offset, Laws.EncodePattern.Statement (.lld base rt offset) := by
  intros; exact (encI_mask_FC000000 ..).trans (show _ = 0xD0000000#32 by decide)
theorem Laws.EncodePattern.ldc1 : ∀ base ft offset, Laws.EncodePattern.Statement (.ldc1 base ft offset) := by
  intros; exact (encI_mask_FC000000 ..).trans (show _ = 0xD4000000#32 by decide)
theorem Laws.EncodePattern.ld : ∀ base rt offset, Laws.EncodePattern.Statement (.ld base rt offset) := by
  intros; exact (encI_mask_FC000000 ..).trans (show _ = 0xDC000000#32 by decide)
theorem Laws.EncodePattern.sc : ∀ base rt offset, Laws.EncodePattern.Statement (.sc base rt offset) := by
  intros; exact (encI_mask_FC000000 ..).trans (show _ = 0xE0000000#32 by decide)
theorem Laws.EncodePattern.swc1 : ∀ base ft offset, Laws.EncodePattern.Statement (.swc1 base ft offset) := by
  intros; exact (encI_mask_FC000000 ..).trans (show _ = 0xE4000000#32 by decide)
theorem Laws.EncodePattern.scd : ∀ base rt offset, Laws.EncodePattern.Statement (.scd base rt offset) := by
  intros; exact (encI_mask_FC000000 ..).trans (show _ = 0xF0000000#32 by decide)
theorem Laws.EncodePattern.sdc1 : ∀ base ft offset, Laws.EncodePattern.Statement (.sdc1 base ft offset) := by
  intros; exact (encI_mask_FC000000 ..).trans (show _ = 0xF4000000#32 by decide)
theorem Laws.EncodePattern.sd : ∀ base rt offset, Laws.EncodePattern.Statement (.sd base rt offset) := by
  intros; exact (encI_mask_FC000000 ..).trans (show _ = 0xFC000000#32 by decide)
theorem Laws.EncodePattern.mfc0 : ∀ rt rd, Laws.EncodePattern.Statement (.mfc0 rt rd) := by
  intros; exact (encR_mask_FFE00000 ..).trans (show _ = 0x40000000#32 by decide)
theorem Laws.EncodePattern.dmfc0 : ∀ rt rd, Laws.EncodePattern.Statement (.dmfc0 rt rd) := by
  intros; exact (encR_mask_FFE00000 ..).trans (show _ = 0x40200000#32 by decide)
theorem Laws.EncodePattern.mtc0 : ∀ rt rd, Laws.EncodePattern.Statement (.mtc0 rt rd) := by
  intros; exact (encR_mask_FFE00000 ..).trans (show _ = 0x40800000#32 by decide)
theorem Laws.EncodePattern.dmtc0 : ∀ rt rd, Laws.EncodePattern.Statement (.dmtc0 rt rd) := by
  intros; exact (encR_mask_FFE00000 ..).trans (show _ = 0x40A00000#32 by decide)
theorem Laws.EncodePattern.eret : Laws.EncodePattern.Statement .eret := by unfold Laws.EncodePattern.Statement; decide
theorem Laws.EncodePattern.tlbr : Laws.EncodePattern.Statement .tlbr := by unfold Laws.EncodePattern.Statement; decide
theorem Laws.EncodePattern.tlbwi : Laws.EncodePattern.Statement .tlbwi := by unfold Laws.EncodePattern.Statement; decide
theorem Laws.EncodePattern.tlbwr : Laws.EncodePattern.Statement .tlbwr := by unfold Laws.EncodePattern.Statement; decide
theorem Laws.EncodePattern.tlbp : Laws.EncodePattern.Statement .tlbp := by unfold Laws.EncodePattern.Statement; decide
theorem Laws.EncodePattern.mfc1 : ∀ rt fs, Laws.EncodePattern.Statement (.mfc1 rt fs) := by
  intros; exact (encR_mask_FFE00000 ..).trans (show _ = 0x44000000#32 by decide)
theorem Laws.EncodePattern.dmfc1 : ∀ rt fs, Laws.EncodePattern.Statement (.dmfc1 rt fs) := by
  intros; exact (encR_mask_FFE00000 ..).trans (show _ = 0x44200000#32 by decide)
theorem Laws.EncodePattern.cfc1 : ∀ rt fs, Laws.EncodePattern.Statement (.cfc1 rt fs) := by
  intros; exact (encR_mask_FFE00000 ..).trans (show _ = 0x44400000#32 by decide)
theorem Laws.EncodePattern.mtc1 : ∀ rt fs, Laws.EncodePattern.Statement (.mtc1 rt fs) := by
  intros; exact (encR_mask_FFE00000 ..).trans (show _ = 0x44800000#32 by decide)
theorem Laws.EncodePattern.dmtc1 : ∀ rt fs, Laws.EncodePattern.Statement (.dmtc1 rt fs) := by
  intros; exact (encR_mask_FFE00000 ..).trans (show _ = 0x44A00000#32 by decide)
theorem Laws.EncodePattern.ctc1 : ∀ rt fs, Laws.EncodePattern.Statement (.ctc1 rt fs) := by
  intros; exact (encR_mask_FFE00000 ..).trans (show _ = 0x44C00000#32 by decide)
theorem Laws.EncodePattern.bc1f : ∀ imm, Laws.EncodePattern.Statement (.bc1f imm) := by
  intros; exact (encI_mask_FFFF0000 ..).trans (show _ = 0x45000000#32 by decide)
theorem Laws.EncodePattern.bc1t : ∀ imm, Laws.EncodePattern.Statement (.bc1t imm) := by
  intros; exact (encI_mask_FFFF0000 ..).trans (show _ = 0x45010000#32 by decide)
theorem Laws.EncodePattern.bc1fl : ∀ imm, Laws.EncodePattern.Statement (.bc1fl imm) := by
  intros; exact (encI_mask_FFFF0000 ..).trans (show _ = 0x45020000#32 by decide)
theorem Laws.EncodePattern.bc1tl : ∀ imm, Laws.EncodePattern.Statement (.bc1tl imm) := by
  intros; exact (encI_mask_FFFF0000 ..).trans (show _ = 0x45030000#32 by decide)
theorem Laws.EncodePattern.addS : ∀ ft fs fd, Laws.EncodePattern.Statement (.addS ft fs fd) := by
  intros; exact (encR_mask_FFE0003F ..).trans (show _ = 0x46000000#32 by decide)
theorem Laws.EncodePattern.addD : ∀ ft fs fd, Laws.EncodePattern.Statement (.addD ft fs fd) := by
  intros; exact (encR_mask_FFE0003F ..).trans (show _ = 0x46200000#32 by decide)
theorem Laws.EncodePattern.subS : ∀ ft fs fd, Laws.EncodePattern.Statement (.subS ft fs fd) := by
  intros; exact (encR_mask_FFE0003F ..).trans (show _ = 0x46000001#32 by decide)
theorem Laws.EncodePattern.subD : ∀ ft fs fd, Laws.EncodePattern.Statement (.subD ft fs fd) := by
  intros; exact (encR_mask_FFE0003F ..).trans (show _ = 0x46200001#32 by decide)
theorem Laws.EncodePattern.mulS : ∀ ft fs fd, Laws.EncodePattern.Statement (.mulS ft fs fd) := by
  intros; exact (encR_mask_FFE0003F ..).trans (show _ = 0x46000002#32 by decide)
theorem Laws.EncodePattern.mulD : ∀ ft fs fd, Laws.EncodePattern.Statement (.mulD ft fs fd) := by
  intros; exact (encR_mask_FFE0003F ..).trans (show _ = 0x46200002#32 by decide)
theorem Laws.EncodePattern.divS : ∀ ft fs fd, Laws.EncodePattern.Statement (.divS ft fs fd) := by
  intros; exact (encR_mask_FFE0003F ..).trans (show _ = 0x46000003#32 by decide)
theorem Laws.EncodePattern.divD : ∀ ft fs fd, Laws.EncodePattern.Statement (.divD ft fs fd) := by
  intros; exact (encR_mask_FFE0003F ..).trans (show _ = 0x46200003#32 by decide)
theorem Laws.EncodePattern.sqrtS : ∀ fs fd, Laws.EncodePattern.Statement (.sqrtS fs fd) := by
  intros; exact (encR_mask_FFE0003F ..).trans (show _ = 0x46000004#32 by decide)
theorem Laws.EncodePattern.sqrtD : ∀ fs fd, Laws.EncodePattern.Statement (.sqrtD fs fd) := by
  intros; exact (encR_mask_FFE0003F ..).trans (show _ = 0x46200004#32 by decide)
theorem Laws.EncodePattern.absS : ∀ fs fd, Laws.EncodePattern.Statement (.absS fs fd) := by
  intros; exact (encR_mask_FFE0003F ..).trans (show _ = 0x46000005#32 by decide)
theorem Laws.EncodePattern.absD : ∀ fs fd, Laws.EncodePattern.Statement (.absD fs fd) := by
  intros; exact (encR_mask_FFE0003F ..).trans (show _ = 0x46200005#32 by decide)
theorem Laws.EncodePattern.movS : ∀ fs fd, Laws.EncodePattern.Statement (.movS fs fd) := by
  intros; exact (encR_mask_FFE0003F ..).trans (show _ = 0x46000006#32 by decide)
theorem Laws.EncodePattern.movD : ∀ fs fd, Laws.EncodePattern.Statement (.movD fs fd) := by
  intros; exact (encR_mask_FFE0003F ..).trans (show _ = 0x46200006#32 by decide)
theorem Laws.EncodePattern.negS : ∀ fs fd, Laws.EncodePattern.Statement (.negS fs fd) := by
  intros; exact (encR_mask_FFE0003F ..).trans (show _ = 0x46000007#32 by decide)
theorem Laws.EncodePattern.negD : ∀ fs fd, Laws.EncodePattern.Statement (.negD fs fd) := by
  intros; exact (encR_mask_FFE0003F ..).trans (show _ = 0x46200007#32 by decide)
theorem Laws.EncodePattern.cvtSD : ∀ fs fd, Laws.EncodePattern.Statement (.cvtSD fs fd) := by
  intros; exact (encR_mask_FFE0003F ..).trans (show _ = 0x46200020#32 by decide)
theorem Laws.EncodePattern.cvtSW : ∀ fs fd, Laws.EncodePattern.Statement (.cvtSW fs fd) := by
  intros; exact (encR_mask_FFE0003F ..).trans (show _ = 0x46800020#32 by decide)
theorem Laws.EncodePattern.cvtSL : ∀ fs fd, Laws.EncodePattern.Statement (.cvtSL fs fd) := by
  intros; exact (encR_mask_FFE0003F ..).trans (show _ = 0x46A00020#32 by decide)
theorem Laws.EncodePattern.cvtDS : ∀ fs fd, Laws.EncodePattern.Statement (.cvtDS fs fd) := by
  intros; exact (encR_mask_FFE0003F ..).trans (show _ = 0x46000021#32 by decide)
theorem Laws.EncodePattern.cvtDW : ∀ fs fd, Laws.EncodePattern.Statement (.cvtDW fs fd) := by
  intros; exact (encR_mask_FFE0003F ..).trans (show _ = 0x46800021#32 by decide)
theorem Laws.EncodePattern.cvtDL : ∀ fs fd, Laws.EncodePattern.Statement (.cvtDL fs fd) := by
  intros; exact (encR_mask_FFE0003F ..).trans (show _ = 0x46A00021#32 by decide)
theorem Laws.EncodePattern.cvtWS : ∀ fs fd, Laws.EncodePattern.Statement (.cvtWS fs fd) := by
  intros; exact (encR_mask_FFE0003F ..).trans (show _ = 0x46000024#32 by decide)
theorem Laws.EncodePattern.cvtWD : ∀ fs fd, Laws.EncodePattern.Statement (.cvtWD fs fd) := by
  intros; exact (encR_mask_FFE0003F ..).trans (show _ = 0x46200024#32 by decide)
theorem Laws.EncodePattern.cvtLS : ∀ fs fd, Laws.EncodePattern.Statement (.cvtLS fs fd) := by
  intros; exact (encR_mask_FFE0003F ..).trans (show _ = 0x46000025#32 by decide)
theorem Laws.EncodePattern.cvtLD : ∀ fs fd, Laws.EncodePattern.Statement (.cvtLD fs fd) := by
  intros; exact (encR_mask_FFE0003F ..).trans (show _ = 0x46200025#32 by decide)
theorem Laws.EncodePattern.roundWS : ∀ fs fd, Laws.EncodePattern.Statement (.roundWS fs fd) := by
  intros; exact (encR_mask_FFE0003F ..).trans (show _ = 0x4600000C#32 by decide)
theorem Laws.EncodePattern.roundWD : ∀ fs fd, Laws.EncodePattern.Statement (.roundWD fs fd) := by
  intros; exact (encR_mask_FFE0003F ..).trans (show _ = 0x4620000C#32 by decide)
theorem Laws.EncodePattern.truncWS : ∀ fs fd, Laws.EncodePattern.Statement (.truncWS fs fd) := by
  intros; exact (encR_mask_FFE0003F ..).trans (show _ = 0x4600000D#32 by decide)
theorem Laws.EncodePattern.truncWD : ∀ fs fd, Laws.EncodePattern.Statement (.truncWD fs fd) := by
  intros; exact (encR_mask_FFE0003F ..).trans (show _ = 0x4620000D#32 by decide)
theorem Laws.EncodePattern.ceilWS : ∀ fs fd, Laws.EncodePattern.Statement (.ceilWS fs fd) := by
  intros; exact (encR_mask_FFE0003F ..).trans (show _ = 0x4600000E#32 by decide)
theorem Laws.EncodePattern.ceilWD : ∀ fs fd, Laws.EncodePattern.Statement (.ceilWD fs fd) := by
  intros; exact (encR_mask_FFE0003F ..).trans (show _ = 0x4620000E#32 by decide)
theorem Laws.EncodePattern.floorWS : ∀ fs fd, Laws.EncodePattern.Statement (.floorWS fs fd) := by
  intros; exact (encR_mask_FFE0003F ..).trans (show _ = 0x4600000F#32 by decide)
theorem Laws.EncodePattern.floorWD : ∀ fs fd, Laws.EncodePattern.Statement (.floorWD fs fd) := by
  intros; exact (encR_mask_FFE0003F ..).trans (show _ = 0x4620000F#32 by decide)
theorem Laws.EncodePattern.roundLS : ∀ fs fd, Laws.EncodePattern.Statement (.roundLS fs fd) := by
  intros; exact (encR_mask_FFE0003F ..).trans (show _ = 0x46000008#32 by decide)
theorem Laws.EncodePattern.roundLD : ∀ fs fd, Laws.EncodePattern.Statement (.roundLD fs fd) := by
  intros; exact (encR_mask_FFE0003F ..).trans (show _ = 0x46200008#32 by decide)
theorem Laws.EncodePattern.truncLS : ∀ fs fd, Laws.EncodePattern.Statement (.truncLS fs fd) := by
  intros; exact (encR_mask_FFE0003F ..).trans (show _ = 0x46000009#32 by decide)
theorem Laws.EncodePattern.truncLD : ∀ fs fd, Laws.EncodePattern.Statement (.truncLD fs fd) := by
  intros; exact (encR_mask_FFE0003F ..).trans (show _ = 0x46200009#32 by decide)
theorem Laws.EncodePattern.ceilLS : ∀ fs fd, Laws.EncodePattern.Statement (.ceilLS fs fd) := by
  intros; exact (encR_mask_FFE0003F ..).trans (show _ = 0x4600000A#32 by decide)
theorem Laws.EncodePattern.ceilLD : ∀ fs fd, Laws.EncodePattern.Statement (.ceilLD fs fd) := by
  intros; exact (encR_mask_FFE0003F ..).trans (show _ = 0x4620000A#32 by decide)
theorem Laws.EncodePattern.floorLS : ∀ fs fd, Laws.EncodePattern.Statement (.floorLS fs fd) := by
  intros; exact (encR_mask_FFE0003F ..).trans (show _ = 0x4600000B#32 by decide)
theorem Laws.EncodePattern.floorLD : ∀ fs fd, Laws.EncodePattern.Statement (.floorLD fs fd) := by
  intros; exact (encR_mask_FFE0003F ..).trans (show _ = 0x4620000B#32 by decide)
theorem Laws.EncodePattern.cFS : ∀ ft fs, Laws.EncodePattern.Statement (.cFS ft fs) := by
  intros; exact (encR_mask_FFE0003F ..).trans (show _ = 0x46000030#32 by decide)
theorem Laws.EncodePattern.cFD : ∀ ft fs, Laws.EncodePattern.Statement (.cFD ft fs) := by
  intros; exact (encR_mask_FFE0003F ..).trans (show _ = 0x46200030#32 by decide)
theorem Laws.EncodePattern.cUnS : ∀ ft fs, Laws.EncodePattern.Statement (.cUnS ft fs) := by
  intros; exact (encR_mask_FFE0003F ..).trans (show _ = 0x46000031#32 by decide)
theorem Laws.EncodePattern.cUnD : ∀ ft fs, Laws.EncodePattern.Statement (.cUnD ft fs) := by
  intros; exact (encR_mask_FFE0003F ..).trans (show _ = 0x46200031#32 by decide)
theorem Laws.EncodePattern.cEqS : ∀ ft fs, Laws.EncodePattern.Statement (.cEqS ft fs) := by
  intros; exact (encR_mask_FFE0003F ..).trans (show _ = 0x46000032#32 by decide)
theorem Laws.EncodePattern.cEqD : ∀ ft fs, Laws.EncodePattern.Statement (.cEqD ft fs) := by
  intros; exact (encR_mask_FFE0003F ..).trans (show _ = 0x46200032#32 by decide)
theorem Laws.EncodePattern.cUeqS : ∀ ft fs, Laws.EncodePattern.Statement (.cUeqS ft fs) := by
  intros; exact (encR_mask_FFE0003F ..).trans (show _ = 0x46000033#32 by decide)
theorem Laws.EncodePattern.cUeqD : ∀ ft fs, Laws.EncodePattern.Statement (.cUeqD ft fs) := by
  intros; exact (encR_mask_FFE0003F ..).trans (show _ = 0x46200033#32 by decide)
theorem Laws.EncodePattern.cOltS : ∀ ft fs, Laws.EncodePattern.Statement (.cOltS ft fs) := by
  intros; exact (encR_mask_FFE0003F ..).trans (show _ = 0x46000034#32 by decide)
theorem Laws.EncodePattern.cOltD : ∀ ft fs, Laws.EncodePattern.Statement (.cOltD ft fs) := by
  intros; exact (encR_mask_FFE0003F ..).trans (show _ = 0x46200034#32 by decide)
theorem Laws.EncodePattern.cUltS : ∀ ft fs, Laws.EncodePattern.Statement (.cUltS ft fs) := by
  intros; exact (encR_mask_FFE0003F ..).trans (show _ = 0x46000035#32 by decide)
theorem Laws.EncodePattern.cUltD : ∀ ft fs, Laws.EncodePattern.Statement (.cUltD ft fs) := by
  intros; exact (encR_mask_FFE0003F ..).trans (show _ = 0x46200035#32 by decide)
theorem Laws.EncodePattern.cOleS : ∀ ft fs, Laws.EncodePattern.Statement (.cOleS ft fs) := by
  intros; exact (encR_mask_FFE0003F ..).trans (show _ = 0x46000036#32 by decide)
theorem Laws.EncodePattern.cOleD : ∀ ft fs, Laws.EncodePattern.Statement (.cOleD ft fs) := by
  intros; exact (encR_mask_FFE0003F ..).trans (show _ = 0x46200036#32 by decide)
theorem Laws.EncodePattern.cUleS : ∀ ft fs, Laws.EncodePattern.Statement (.cUleS ft fs) := by
  intros; exact (encR_mask_FFE0003F ..).trans (show _ = 0x46000037#32 by decide)
theorem Laws.EncodePattern.cUleD : ∀ ft fs, Laws.EncodePattern.Statement (.cUleD ft fs) := by
  intros; exact (encR_mask_FFE0003F ..).trans (show _ = 0x46200037#32 by decide)
theorem Laws.EncodePattern.cSfS : ∀ ft fs, Laws.EncodePattern.Statement (.cSfS ft fs) := by
  intros; exact (encR_mask_FFE0003F ..).trans (show _ = 0x46000038#32 by decide)
theorem Laws.EncodePattern.cSfD : ∀ ft fs, Laws.EncodePattern.Statement (.cSfD ft fs) := by
  intros; exact (encR_mask_FFE0003F ..).trans (show _ = 0x46200038#32 by decide)
theorem Laws.EncodePattern.cNgleS : ∀ ft fs, Laws.EncodePattern.Statement (.cNgleS ft fs) := by
  intros; exact (encR_mask_FFE0003F ..).trans (show _ = 0x46000039#32 by decide)
theorem Laws.EncodePattern.cNgleD : ∀ ft fs, Laws.EncodePattern.Statement (.cNgleD ft fs) := by
  intros; exact (encR_mask_FFE0003F ..).trans (show _ = 0x46200039#32 by decide)
theorem Laws.EncodePattern.cSeqS : ∀ ft fs, Laws.EncodePattern.Statement (.cSeqS ft fs) := by
  intros; exact (encR_mask_FFE0003F ..).trans (show _ = 0x4600003A#32 by decide)
theorem Laws.EncodePattern.cSeqD : ∀ ft fs, Laws.EncodePattern.Statement (.cSeqD ft fs) := by
  intros; exact (encR_mask_FFE0003F ..).trans (show _ = 0x4620003A#32 by decide)
theorem Laws.EncodePattern.cNglS : ∀ ft fs, Laws.EncodePattern.Statement (.cNglS ft fs) := by
  intros; exact (encR_mask_FFE0003F ..).trans (show _ = 0x4600003B#32 by decide)
theorem Laws.EncodePattern.cNglD : ∀ ft fs, Laws.EncodePattern.Statement (.cNglD ft fs) := by
  intros; exact (encR_mask_FFE0003F ..).trans (show _ = 0x4620003B#32 by decide)
theorem Laws.EncodePattern.cLtS : ∀ ft fs, Laws.EncodePattern.Statement (.cLtS ft fs) := by
  intros; exact (encR_mask_FFE0003F ..).trans (show _ = 0x4600003C#32 by decide)
theorem Laws.EncodePattern.cLtD : ∀ ft fs, Laws.EncodePattern.Statement (.cLtD ft fs) := by
  intros; exact (encR_mask_FFE0003F ..).trans (show _ = 0x4620003C#32 by decide)
theorem Laws.EncodePattern.cNgeS : ∀ ft fs, Laws.EncodePattern.Statement (.cNgeS ft fs) := by
  intros; exact (encR_mask_FFE0003F ..).trans (show _ = 0x4600003D#32 by decide)
theorem Laws.EncodePattern.cNgeD : ∀ ft fs, Laws.EncodePattern.Statement (.cNgeD ft fs) := by
  intros; exact (encR_mask_FFE0003F ..).trans (show _ = 0x4620003D#32 by decide)
theorem Laws.EncodePattern.cLeS : ∀ ft fs, Laws.EncodePattern.Statement (.cLeS ft fs) := by
  intros; exact (encR_mask_FFE0003F ..).trans (show _ = 0x4600003E#32 by decide)
theorem Laws.EncodePattern.cLeD : ∀ ft fs, Laws.EncodePattern.Statement (.cLeD ft fs) := by
  intros; exact (encR_mask_FFE0003F ..).trans (show _ = 0x4620003E#32 by decide)
theorem Laws.EncodePattern.cNgtS : ∀ ft fs, Laws.EncodePattern.Statement (.cNgtS ft fs) := by
  intros; exact (encR_mask_FFE0003F ..).trans (show _ = 0x4600003F#32 by decide)
theorem Laws.EncodePattern.cNgtD : ∀ ft fs, Laws.EncodePattern.Statement (.cNgtD ft fs) := by
  intros; exact (encR_mask_FFE0003F ..).trans (show _ = 0x4620003F#32 by decide)

end Sys2Proof
end

