-- ==== Sys2Proof/Tests/Slice0.lean ====
section
/-! SUPPORT. Tests: ill-formed terms, the decoding of one written-out word for every constructor, the vectors of
95_test_vectors.md, and for every statement with hypotheses a state and operands that meet them. -/

namespace Sys2Proof.Tests

open Sys2Proof Sys2Proof.Machine

/-! ## Well-formedness: its one check (41_integer.md R325, R352) -/

theorem test_word_zero_is_not_sll : (Instr.sll 0#5 0#5 0#5).wellFormed = false := by decide
theorem test_nop_is_well_formed : Instr.nop.wellFormed = true := by decide
theorem test_sll_is_well_formed : (Instr.sll 0#5 0#5 1#5).wellFormed = true ∧ (Instr.sll 1#5 0#5 0#5).wellFormed = true ∧
    (Instr.sll 0#5 1#5 0#5).wellFormed = true := by decide

/-! ## Decoding -/

/-- The words are put together from the encodings of 30_encoding.md and of the rules, field by field. -/
theorem test_decode_special_1 : ∀ p ∈ [
    (0b000000_00000_00110_11011_01101_000000#32, Instr.sll 6#5 27#5 13#5),
    (0b000000_00000_00110_11011_01101_000010#32, .srl 6#5 27#5 13#5),
    (0b000000_00000_00110_11011_01101_000011#32, .sra 6#5 27#5 13#5),
    (0b000000_10001_00110_11011_00000_000100#32, .sllv 17#5 6#5 27#5),
    (0b000000_10001_00110_11011_00000_000110#32, .srlv 17#5 6#5 27#5),
    (0b000000_10001_00110_11011_00000_000111#32, .srav 17#5 6#5 27#5),
    (0b000000_10001_00000_00000_00000_001000#32, .jr 17#5),
    (0b000000_10001_00000_11011_00000_001001#32, .jalr 17#5 27#5),
    (0b000000_10011100001110100101_001100#32, .syscall 639909#20),
    (0b000000_10011100001110100101_001101#32, .brk 639909#20),
    (0b000000_00000_00000_00000_01001_001111#32, .sync 9#5),
    (0b000000_00000_00000_11011_00000_010000#32, .mfhi 27#5),
    (0b000000_10001_00000_00000_00000_010001#32, .mthi 17#5),
    (0b000000_00000_00000_11011_00000_010010#32, .mflo 27#5),
    (0b000000_10001_00000_00000_00000_010011#32, .mtlo 17#5),
    (0b000000_10001_00110_11011_00000_010100#32, .dsllv 17#5 6#5 27#5),
    (0b000000_10001_00110_11011_00000_010110#32, .dsrlv 17#5 6#5 27#5),
    (0b000000_10001_00110_11011_00000_010111#32, .dsrav 17#5 6#5 27#5),
    (0b000000_10001_00110_00000_00000_011000#32, .mult 17#5 6#5),
    (0b000000_10001_00110_00000_00000_011001#32, .multu 17#5 6#5),
    (0b000000_10001_00110_00000_00000_011010#32, .div 17#5 6#5),
    (0b000000_10001_00110_00000_00000_011011#32, .divu 17#5 6#5),
    (0b000000_10001_00110_00000_00000_011100#32, .dmult 17#5 6#5),
    (0b000000_10001_00110_00000_00000_011101#32, .dmultu 17#5 6#5),
    (0b000000_10001_00110_00000_00000_011110#32, .ddiv 17#5 6#5),
    (0b000000_10001_00110_00000_00000_011111#32, .ddivu 17#5 6#5),
    (0b000000_10001_00110_11011_00000_100000#32, .add 17#5 6#5 27#5),
    (0b000000_10001_00110_11011_00000_100001#32, .addu 17#5 6#5 27#5)],
    decode p.1 = .ok p.2 := by decide

/-- The words are put together from the encodings of 30_encoding.md and of the rules, field by field. -/
theorem test_decode_special_2 : ∀ p ∈ [
    (0b000000_10001_00110_11011_00000_100010#32, Instr.sub 17#5 6#5 27#5),
    (0b000000_10001_00110_11011_00000_100011#32, .subu 17#5 6#5 27#5),
    (0b000000_10001_00110_11011_00000_100100#32, .and 17#5 6#5 27#5),
    (0b000000_10001_00110_11011_00000_100101#32, .or 17#5 6#5 27#5),
    (0b000000_10001_00110_11011_00000_100110#32, .xor 17#5 6#5 27#5),
    (0b000000_10001_00110_11011_00000_100111#32, .nor 17#5 6#5 27#5),
    (0b000000_10001_00110_11011_00000_101010#32, .slt 17#5 6#5 27#5),
    (0b000000_10001_00110_11011_00000_101011#32, .sltu 17#5 6#5 27#5),
    (0b000000_10001_00110_11011_00000_101100#32, .dadd 17#5 6#5 27#5),
    (0b000000_10001_00110_11011_00000_101101#32, .daddu 17#5 6#5 27#5),
    (0b000000_10001_00110_11011_00000_101110#32, .dsub 17#5 6#5 27#5),
    (0b000000_10001_00110_11011_00000_101111#32, .dsubu 17#5 6#5 27#5),
    (0b000000_10001_00110_1011000101_110000#32, .tge 17#5 6#5 709#10),
    (0b000000_10001_00110_1011000101_110001#32, .tgeu 17#5 6#5 709#10),
    (0b000000_10001_00110_1011000101_110010#32, .tlt 17#5 6#5 709#10),
    (0b000000_10001_00110_1011000101_110011#32, .tltu 17#5 6#5 709#10),
    (0b000000_10001_00110_1011000101_110100#32, .teq 17#5 6#5 709#10),
    (0b000000_10001_00110_1011000101_110110#32, .tne 17#5 6#5 709#10),
    (0b000000_00000_00110_11011_01101_111000#32, .dsll 6#5 27#5 13#5),
    (0b000000_00000_00110_11011_01101_111010#32, .dsrl 6#5 27#5 13#5),
    (0b000000_00000_00110_11011_01101_111011#32, .dsra 6#5 27#5 13#5),
    (0b000000_00000_00110_11011_01101_111100#32, .dsll32 6#5 27#5 13#5),
    (0b000000_00000_00110_11011_01101_111110#32, .dsrl32 6#5 27#5 13#5),
    (0b000000_00000_00110_11011_01101_111111#32, .dsra32 6#5 27#5 13#5)],
    decode p.1 = .ok p.2 := by decide

/-- The words are put together from the encodings of 30_encoding.md and of the rules, field by field. -/
theorem test_decode_fixed_words : ∀ p ∈ [
    (0b000000_00000_00000_00000_00000_000000#32, Instr.nop),
    (0b010000_10000_00000_00000_00000_011000#32, .eret)],
    decode p.1 = .ok p.2 := by decide

/-- The words are put together from the encodings of 30_encoding.md and of the rules, field by field. -/
theorem test_decode_regimm : ∀ p ∈ [
    (0b000001_10001_00000_1000000000000101#32, Instr.bltz 17#5 32773#16),
    (0b000001_10001_00001_1000000000000101#32, .bgez 17#5 32773#16),
    (0b000001_10001_00010_1000000000000101#32, .bltzl 17#5 32773#16),
    (0b000001_10001_00011_1000000000000101#32, .bgezl 17#5 32773#16),
    (0b000001_10001_01000_1000000000000101#32, .tgei 17#5 32773#16),
    (0b000001_10001_01001_1000000000000101#32, .tgeiu 17#5 32773#16),
    (0b000001_10001_01010_1000000000000101#32, .tlti 17#5 32773#16),
    (0b000001_10001_01011_1000000000000101#32, .tltiu 17#5 32773#16),
    (0b000001_10001_01100_1000000000000101#32, .teqi 17#5 32773#16),
    (0b000001_10001_01110_1000000000000101#32, .tnei 17#5 32773#16),
    (0b000001_10001_10000_1000000000000101#32, .bltzal 17#5 32773#16),
    (0b000001_10001_10001_1000000000000101#32, .bgezal 17#5 32773#16),
    (0b000001_10001_10010_1000000000000101#32, .bltzall 17#5 32773#16),
    (0b000001_10001_10011_1000000000000101#32, .bgezall 17#5 32773#16)],
    decode p.1 = .ok p.2 := by decide

/-- The words are put together from the encodings of 30_encoding.md and of the rules, field by field. -/
theorem test_decode_primary : ∀ p ∈ [
    (0b000010_10000000000000000001000001#32, Instr.j 33554497#26),
    (0b000011_10000000000000000001000001#32, .jal 33554497#26),
    (0b000100_10001_00110_1000000000000101#32, .beq 17#5 6#5 32773#16),
    (0b000101_10001_00110_1000000000000101#32, .bne 17#5 6#5 32773#16),
    (0b000110_10001_00000_1000000000000101#32, .blez 17#5 32773#16),
    (0b000111_10001_00000_1000000000000101#32, .bgtz 17#5 32773#16),
    (0b001000_10001_00110_1000000000000101#32, .addi 17#5 6#5 32773#16),
    (0b001001_10001_00110_1000000000000101#32, .addiu 17#5 6#5 32773#16),
    (0b001010_10001_00110_1000000000000101#32, .slti 17#5 6#5 32773#16),
    (0b001011_10001_00110_1000000000000101#32, .sltiu 17#5 6#5 32773#16),
    (0b001100_10001_00110_1000000000000101#32, .andi 17#5 6#5 32773#16),
    (0b001101_10001_00110_1000000000000101#32, .ori 17#5 6#5 32773#16),
    (0b001110_10001_00110_1000000000000101#32, .xori 17#5 6#5 32773#16),
    (0b001111_00000_00110_1000000000000101#32, .lui 6#5 32773#16),
    (0b010100_10001_00110_1000000000000101#32, .beql 17#5 6#5 32773#16),
    (0b010101_10001_00110_1000000000000101#32, .bnel 17#5 6#5 32773#16),
    (0b010110_10001_00000_1000000000000101#32, .blezl 17#5 32773#16),
    (0b010111_10001_00000_1000000000000101#32, .bgtzl 17#5 32773#16),
    (0b011000_10001_00110_1000000000000101#32, .daddi 17#5 6#5 32773#16),
    (0b011001_10001_00110_1000000000000101#32, .daddiu 17#5 6#5 32773#16)],
    decode p.1 = .ok p.2 := by decide

/-- The words are put together from the encodings of 30_encoding.md and of the rules, field by field. -/
theorem test_decode_loads_stores : ∀ p ∈ [
    (0b011010_10011_00110_1111111111111001#32, Instr.ldl 19#5 6#5 65529#16),
    (0b011011_10011_00110_1111111111111001#32, .ldr 19#5 6#5 65529#16),
    (0b100000_10011_00110_1111111111111001#32, .lb 19#5 6#5 65529#16),
    (0b100001_10011_00110_1111111111111001#32, .lh 19#5 6#5 65529#16),
    (0b100010_10011_00110_1111111111111001#32, .lwl 19#5 6#5 65529#16),
    (0b100011_10011_00110_1111111111111001#32, .lw 19#5 6#5 65529#16),
    (0b100100_10011_00110_1111111111111001#32, .lbu 19#5 6#5 65529#16),
    (0b100101_10011_00110_1111111111111001#32, .lhu 19#5 6#5 65529#16),
    (0b100110_10011_00110_1111111111111001#32, .lwr 19#5 6#5 65529#16),
    (0b100111_10011_00110_1111111111111001#32, .lwu 19#5 6#5 65529#16),
    (0b101000_10011_00110_1111111111111001#32, .sb 19#5 6#5 65529#16),
    (0b101001_10011_00110_1111111111111001#32, .sh 19#5 6#5 65529#16),
    (0b101010_10011_00110_1111111111111001#32, .swl 19#5 6#5 65529#16),
    (0b101011_10011_00110_1111111111111001#32, .sw 19#5 6#5 65529#16),
    (0b101100_10011_00110_1111111111111001#32, .sdl 19#5 6#5 65529#16),
    (0b101101_10011_00110_1111111111111001#32, .sdr 19#5 6#5 65529#16),
    (0b101110_10011_00110_1111111111111001#32, .swr 19#5 6#5 65529#16),
    (0b101111_10011_10101_1111111111111001#32, .cache 19#5 21#5 65529#16),
    (0b110000_10011_00110_1111111111111001#32, .ll 19#5 6#5 65529#16),
    (0b110001_10011_01011_1111111111111001#32, .lwc1 19#5 11#5 65529#16),
    (0b110100_10011_00110_1111111111111001#32, .lld 19#5 6#5 65529#16),
    (0b110101_10011_01011_1111111111111001#32, .ldc1 19#5 11#5 65529#16),
    (0b110111_10011_00110_1111111111111001#32, .ld 19#5 6#5 65529#16),
    (0b111000_10011_00110_1111111111111001#32, .sc 19#5 6#5 65529#16),
    (0b111001_10011_01011_1111111111111001#32, .swc1 19#5 11#5 65529#16),
    (0b111100_10011_00110_1111111111111001#32, .scd 19#5 6#5 65529#16),
    (0b111101_10011_01011_1111111111111001#32, .sdc1 19#5 11#5 65529#16),
    (0b111111_10011_00110_1111111111111001#32, .sd 19#5 6#5 65529#16)],
    decode p.1 = .ok p.2 := by decide

/-- The words are put together from the encodings of 30_encoding.md and of the rules, field by field. -/
theorem test_decode_cop0 : ∀ p ∈ [
    (0b010000_00000_00110_11011_00000_000000#32, Instr.mfc0 6#5 27#5),
    (0b010000_00001_00110_11011_00000_000000#32, .dmfc0 6#5 27#5),
    (0b010000_00100_00110_11011_00000_000000#32, .mtc0 6#5 27#5),
    (0b010000_00101_00110_11011_00000_000000#32, .dmtc0 6#5 27#5),
    (0b010000_10000_00000_00000_00000_000001#32, .tlbr),
    (0b010000_10000_00000_00000_00000_000010#32, .tlbwi),
    (0b010000_10000_00000_00000_00000_000110#32, .tlbwr),
    (0b010000_10000_00000_00000_00000_001000#32, .tlbp)],
    decode p.1 = .ok p.2 := by decide

/-- The words are put together from the encodings of 30_encoding.md and of the rules, field by field. -/
theorem test_decode_cop1_moves_branches : ∀ p ∈ [
    (0b010001_00000_00110_10110_00000_000000#32, Instr.mfc1 6#5 22#5),
    (0b010001_00001_00110_10110_00000_000000#32, .dmfc1 6#5 22#5),
    (0b010001_00010_00110_10110_00000_000000#32, .cfc1 6#5 22#5),
    (0b010001_00100_00110_10110_00000_000000#32, .mtc1 6#5 22#5),
    (0b010001_00101_00110_10110_00000_000000#32, .dmtc1 6#5 22#5),
    (0b010001_00110_00110_10110_00000_000000#32, .ctc1 6#5 22#5),
    (0b010001_01000_00000_1000000000000101#32, .bc1f 32773#16),
    (0b010001_01000_00001_1000000000000101#32, .bc1t 32773#16),
    (0b010001_01000_00010_1000000000000101#32, .bc1fl 32773#16),
    (0b010001_01000_00011_1000000000000101#32, .bc1tl 32773#16)],
    decode p.1 = .ok p.2 := by decide

/-- The words are put together from the encodings of 30_encoding.md and of the rules, field by field. -/
theorem test_decode_cop1_arithmetic : ∀ p ∈ [
    (0b010001_10000_01011_10110_00101_000000#32, Instr.addS 11#5 22#5 5#5),
    (0b010001_10001_01011_10110_00101_000000#32, .addD 11#5 22#5 5#5),
    (0b010001_10000_01011_10110_00101_000001#32, .subS 11#5 22#5 5#5),
    (0b010001_10001_01011_10110_00101_000001#32, .subD 11#5 22#5 5#5),
    (0b010001_10000_01011_10110_00101_000010#32, .mulS 11#5 22#5 5#5),
    (0b010001_10001_01011_10110_00101_000010#32, .mulD 11#5 22#5 5#5),
    (0b010001_10000_01011_10110_00101_000011#32, .divS 11#5 22#5 5#5),
    (0b010001_10001_01011_10110_00101_000011#32, .divD 11#5 22#5 5#5),
    (0b010001_10000_00000_10110_00101_000100#32, .sqrtS 22#5 5#5),
    (0b010001_10001_00000_10110_00101_000100#32, .sqrtD 22#5 5#5),
    (0b010001_10000_00000_10110_00101_000101#32, .absS 22#5 5#5),
    (0b010001_10001_00000_10110_00101_000101#32, .absD 22#5 5#5),
    (0b010001_10000_00000_10110_00101_000110#32, .movS 22#5 5#5),
    (0b010001_10001_00000_10110_00101_000110#32, .movD 22#5 5#5),
    (0b010001_10000_00000_10110_00101_000111#32, .negS 22#5 5#5),
    (0b010001_10001_00000_10110_00101_000111#32, .negD 22#5 5#5)],
    decode p.1 = .ok p.2 := by decide

/-- The words are put together from the encodings of 30_encoding.md and of the rules, field by field. -/
theorem test_decode_cop1_conversions : ∀ p ∈ [
    (0b010001_10001_00000_10110_00101_100000#32, Instr.cvtSD 22#5 5#5),
    (0b010001_10100_00000_10110_00101_100000#32, .cvtSW 22#5 5#5),
    (0b010001_10101_00000_10110_00101_100000#32, .cvtSL 22#5 5#5),
    (0b010001_10000_00000_10110_00101_100001#32, .cvtDS 22#5 5#5),
    (0b010001_10100_00000_10110_00101_100001#32, .cvtDW 22#5 5#5),
    (0b010001_10101_00000_10110_00101_100001#32, .cvtDL 22#5 5#5),
    (0b010001_10000_00000_10110_00101_100100#32, .cvtWS 22#5 5#5),
    (0b010001_10001_00000_10110_00101_100100#32, .cvtWD 22#5 5#5),
    (0b010001_10000_00000_10110_00101_100101#32, .cvtLS 22#5 5#5),
    (0b010001_10001_00000_10110_00101_100101#32, .cvtLD 22#5 5#5),
    (0b010001_10000_00000_10110_00101_001100#32, .roundWS 22#5 5#5),
    (0b010001_10001_00000_10110_00101_001100#32, .roundWD 22#5 5#5),
    (0b010001_10000_00000_10110_00101_001101#32, .truncWS 22#5 5#5),
    (0b010001_10001_00000_10110_00101_001101#32, .truncWD 22#5 5#5),
    (0b010001_10000_00000_10110_00101_001110#32, .ceilWS 22#5 5#5),
    (0b010001_10001_00000_10110_00101_001110#32, .ceilWD 22#5 5#5),
    (0b010001_10000_00000_10110_00101_001111#32, .floorWS 22#5 5#5),
    (0b010001_10001_00000_10110_00101_001111#32, .floorWD 22#5 5#5),
    (0b010001_10000_00000_10110_00101_001000#32, .roundLS 22#5 5#5),
    (0b010001_10001_00000_10110_00101_001000#32, .roundLD 22#5 5#5),
    (0b010001_10000_00000_10110_00101_001001#32, .truncLS 22#5 5#5),
    (0b010001_10001_00000_10110_00101_001001#32, .truncLD 22#5 5#5),
    (0b010001_10000_00000_10110_00101_001010#32, .ceilLS 22#5 5#5),
    (0b010001_10001_00000_10110_00101_001010#32, .ceilLD 22#5 5#5),
    (0b010001_10000_00000_10110_00101_001011#32, .floorLS 22#5 5#5),
    (0b010001_10001_00000_10110_00101_001011#32, .floorLD 22#5 5#5)],
    decode p.1 = .ok p.2 := by decide

/-- The words are put together from the encodings of 30_encoding.md and of the rules, field by field. -/
theorem test_decode_cop1_compares_1 : ∀ p ∈ [
    (0b010001_10000_01011_10110_00000_110000#32, Instr.cFS 11#5 22#5),
    (0b010001_10001_01011_10110_00000_110000#32, .cFD 11#5 22#5),
    (0b010001_10000_01011_10110_00000_110001#32, .cUnS 11#5 22#5),
    (0b010001_10001_01011_10110_00000_110001#32, .cUnD 11#5 22#5),
    (0b010001_10000_01011_10110_00000_110010#32, .cEqS 11#5 22#5),
    (0b010001_10001_01011_10110_00000_110010#32, .cEqD 11#5 22#5),
    (0b010001_10000_01011_10110_00000_110011#32, .cUeqS 11#5 22#5),
    (0b010001_10001_01011_10110_00000_110011#32, .cUeqD 11#5 22#5),
    (0b010001_10000_01011_10110_00000_110100#32, .cOltS 11#5 22#5),
    (0b010001_10001_01011_10110_00000_110100#32, .cOltD 11#5 22#5),
    (0b010001_10000_01011_10110_00000_110101#32, .cUltS 11#5 22#5),
    (0b010001_10001_01011_10110_00000_110101#32, .cUltD 11#5 22#5),
    (0b010001_10000_01011_10110_00000_110110#32, .cOleS 11#5 22#5),
    (0b010001_10001_01011_10110_00000_110110#32, .cOleD 11#5 22#5),
    (0b010001_10000_01011_10110_00000_110111#32, .cUleS 11#5 22#5),
    (0b010001_10001_01011_10110_00000_110111#32, .cUleD 11#5 22#5),
    (0b010001_10000_01011_10110_00000_111000#32, .cSfS 11#5 22#5),
    (0b010001_10001_01011_10110_00000_111000#32, .cSfD 11#5 22#5),
    (0b010001_10000_01011_10110_00000_111001#32, .cNgleS 11#5 22#5),
    (0b010001_10001_01011_10110_00000_111001#32, .cNgleD 11#5 22#5),
    (0b010001_10000_01011_10110_00000_111010#32, .cSeqS 11#5 22#5),
    (0b010001_10001_01011_10110_00000_111010#32, .cSeqD 11#5 22#5),
    (0b010001_10000_01011_10110_00000_111011#32, .cNglS 11#5 22#5),
    (0b010001_10001_01011_10110_00000_111011#32, .cNglD 11#5 22#5),
    (0b010001_10000_01011_10110_00000_111100#32, .cLtS 11#5 22#5),
    (0b010001_10001_01011_10110_00000_111100#32, .cLtD 11#5 22#5),
    (0b010001_10000_01011_10110_00000_111101#32, .cNgeS 11#5 22#5),
    (0b010001_10001_01011_10110_00000_111101#32, .cNgeD 11#5 22#5)],
    decode p.1 = .ok p.2 := by decide

/-- The words are put together from the encodings of 30_encoding.md and of the rules, field by field. -/
theorem test_decode_cop1_compares_2 : ∀ p ∈ [
    (0b010001_10000_01011_10110_00000_111110#32, Instr.cLeS 11#5 22#5),
    (0b010001_10001_01011_10110_00000_111110#32, .cLeD 11#5 22#5),
    (0b010001_10000_01011_10110_00000_111111#32, .cNgtS 11#5 22#5),
    (0b010001_10001_01011_10110_00000_111111#32, .cNgtD 11#5 22#5)],
    decode p.1 = .ok p.2 := by decide

/-- 30_encoding.md R241: empty entries; R204: ERET only as the exact word; ignored fields are ignored. -/
theorem test_decode_rejects_empty_entries : decode 0x00000001#32 = .error (.special 1#6) ∧
    decode 0x4A000000#32 = .error (.primary 0x12#6) ∧ decode 0xEC000000#32 = .error (.primary 0x3B#6) ∧
    decode 0x42000058#32 = .error (.tlb 0x18#6) ∧ decode 0x00200000#32 = .ok (.sll 0#5 0#5 0#5) ∧
    decode 0x02221FFF#32 = .ok (.dsra32 2#5 3#5 31#5) := by decide

theorem test_encode_gives_the_word : encode (.addu 1#5 2#5 3#5) = 0x00221821#32 ∧
    encode (.jal 0x100#26) = 0x0C000100#32 ∧ encode (.cLtS 2#5 0#5) = 0x4602003C#32 ∧ encode .eret = 0x42000018#32 ∧
    bytesOfWord 0xAC220000#32 = [0xAC#8, 0x22#8, 0#8, 0#8] := by decide

/-- A word runs as the first instruction after reset. -/
theorem test_withFetchWord_runs : (match step (State.reset.withFetchWord 32 0x34038000) with
    | .next t => t.gpr 3#5 == 0x8000#64 && t.pc == 0xFFFFFFFFA4000044#64
    | _ => false) = true ∧ decodeTableWord 32 0x34038000 = some (.ori 0#5 3#5 0x8000#16) := by decide

/-! ## The vectors of 95_test_vectors.md

`run` is phase 4 on the state after the fetch: ia = 0xFFFFFFFF80001000, pc = ia + 4. -/

/-- The start state of the vectors, with some general registers set. -/
def bench (rs : List (Reg × Word)) : State :=
  rs.foldl (fun s p => s.setGpr p.1 p.2)
    { State.reset with regs := Vector.replicate 32 0#64, pc := 0xFFFFFFFF80001004#64 }

/-- The instruction of a word, executed. -/
def run (w : Word32) (s : State) : Result :=
  match decode w with
  | .ok i => exec i s
  | .error _ => .fault (.unimplemented w)

/-- What a next state shows. -/
def see {α : Type} (r : Result) (f : State → α) : Option α :=
  match r with
  | .next t => some (f t)
  | _ => none

/-- The halt of an instruction or step. -/
def haltOf (r : Result) : Option Fault :=
  match r with
  | .fault f => some f
  | _ => none

/-- HI and LO as 64-bit values (`HILO_W` = 64). -/
def wide (s : State) : State := { s with params := { s.params with hiloWidth := .w64 } }

/-- A state with Status replaced. -/
def withStatus (v : Word32) (s : State) : State := s.setCop0 Cop0.status v

/-- COP1 slots 0 and 2, FCSR. -/
def fp (v0 v2 : Word) (fcsr : Word32) : State := { ((bench []).setSlot 0#5 v0).setSlot 2#5 v2 with fcr31 := fcsr }

/-- 95_test_vectors.md 2.1: x[3] after an instruction on x[1] and x[2]. -/
theorem test_integer_vectors : ([
    (0x00221821#32, 0x7FFFFFFF#64, 1#64, 0xFFFFFFFF80000000#64), (0x00221820#32, 0x7FFFFFFF#64, 1#64, 0xFFFFFFFF80000000#64),
    (0x00221821#32, 0x123456789#64, 1#64, 0x2345678A#64), (0x00221823#32, 0#64, 1#64, 0xFFFFFFFFFFFFFFFF#64),
    (0x00221822#32, 5#64, 7#64, 0xFFFFFFFFFFFFFFFE#64),
    (0x0022182C#32, 0x7FFFFFFFFFFFFFFF#64, 1#64, 0x8000000000000000#64), (0x0022182F#32, 0#64, 1#64, 0xFFFFFFFFFFFFFFFF#64),
    (0x2423FFFF#32, 0#64, 0#64, 0xFFFFFFFFFFFFFFFF#64), (0x6423FFFF#32, 0#64, 0#64, 0xFFFFFFFFFFFFFFFF#64),
    (0x3023FFFF#32, 0xFFFFFFFFFFFFFFFF#64, 0#64, 0xFFFF#64), (0x34038000#32, 0#64, 0#64, 0x8000#64),
    (0x3823FFFF#32, 0xF0F#64, 0#64, 0xF0F0#64), (0x00001827#32, 0#64, 0#64, 0xFFFFFFFFFFFFFFFF#64),
    (0x3C038000#32, 0#64, 0#64, 0xFFFFFFFF80000000#64), (0x0022182A#32, 0xFFFFFFFFFFFFFFFF#64, 1#64, 1#64),
    (0x0022182B#32, 0xFFFFFFFFFFFFFFFF#64, 1#64, 0#64), (0x2823FFFF#32, 0xFFFFFFFFFFFFFFFE#64, 0#64, 1#64),
    (0x2C23FFFF#32, 5#64, 0#64, 1#64)].all fun p =>
    see (run p.1 (bench [(1#5, p.2.1), (2#5, p.2.2.1)])) (fun t => t.gpr 3#5) == some p.2.2.2) = true := by
  decide

/-- 95_test_vectors.md 2.1: shifts. -/
theorem test_shift_vectors : ([
    (0x00011FC0#32, 1#64, 0#64, 0xFFFFFFFF80000000#64), (0x00011842#32, 0xFFFFFFFF00000002#64, 0#64, 1#64),
    (0x00011903#32, 0x80000000#64, 0#64, 0xFFFFFFFFF8000000#64), (0x00411804#32, 1#64, 0x21#64, 2#64),
    (0x00411807#32, 0x80000000#64, 0x1F#64, 0xFFFFFFFFFFFFFFFF#64), (0x0001183C#32, 0xFFFFFFFF#64, 0#64, 0xFFFFFFFF00000000#64),
    (0x00011FFF#32, 0x8000000000000000#64, 0#64, 0xFFFFFFFFFFFFFFFF#64),
    (0x00411816#32, 0x8000000000000000#64, 0x40#64, 0x8000000000000000#64)].all fun p =>
    see (run p.1 (bench [(1#5, p.2.1), (2#5, p.2.2.1)])) (fun t => t.gpr 3#5) == some p.2.2.2) = true := by
  decide

/-- 95_test_vectors.md 2.1: HI and LO as read, under `HILO_W` = 32. -/
theorem test_multiply_divide_vectors : ([
    (0x00220018#32, 0xFFFFFFFFFFFFFFFE#64, 3#64, 0xFFFFFFFFFFFFFFFF#64, 0xFFFFFFFFFFFFFFFA#64),
    (0x00220019#32, 0xFFFFFFFF#64, 0xFFFFFFFF#64, 0xFFFFFFFFFFFFFFFE#64, 1#64),
    (0x0022001A#32, 5#64, 0#64, 5#64, 0xFFFFFFFFFFFFFFFF#64),
    (0x0022001A#32, 0xFFFFFFFFFFFFFFFB#64, 0#64, 0xFFFFFFFFFFFFFFFB#64, 1#64),
    (0x0022001A#32, 0xFFFFFFFFFFFFFFF9#64, 2#64, 0xFFFFFFFFFFFFFFFF#64, 0xFFFFFFFFFFFFFFFD#64),
    (0x0022001B#32, 7#64, 0#64, 7#64, 0xFFFFFFFFFFFFFFFF#64), (0x0022001B#32, 0xFFFFFFFF#64, 2#64, 1#64, 0x7FFFFFFF#64),
    (0x0022001D#32, 0x100000001#64, 0x100000000#64, 1#64, 0#64),
    (0x0022001F#32, 0x123456789#64, 0#64, 0x23456789#64, 0xFFFFFFFFFFFFFFFF#64)].all fun p =>
    see (run p.1 (bench [(1#5, p.2.1), (2#5, p.2.2.1)])) (fun t => (t.readHi, t.readLo)) == some p.2.2.2) = true := by
  decide

/-- 95_test_vectors.md 2.1: HI and LO as read, under `HILO_W` = 64. -/
theorem test_wide_multiply_divide_vectors : ([
    (0x0022001C#32, 0xFFFFFFFFFFFFFFFF#64, 2#64, 0xFFFFFFFFFFFFFFFF#64, 0xFFFFFFFFFFFFFFFE#64),
    (0x0022001D#32, 0x100000001#64, 0x100000000#64, 1#64, 0x100000000#64),
    (0x0022001E#32, 0xFFFFFFFFFFFFFFF9#64, 2#64, 0xFFFFFFFFFFFFFFFF#64, 0xFFFFFFFFFFFFFFFD#64),
    (0x0022001F#32, 0x123456789#64, 0#64, 0x123456789#64, 0xFFFFFFFFFFFFFFFF#64)].all fun p =>
    see (run p.1 (wide (bench [(1#5, p.2.1), (2#5, p.2.2.1)]))) (fun t => (t.readHi, t.readLo)) == some p.2.2.2) = true := by
  decide

/-- 95_test_vectors.md 2.1: the overflow of DIV (R342), under both choices of `DIV_OVERFLOW`; MFHI (R348). -/
theorem test_div_overflow_and_mfhi :
    see (run 0x0022001A#32 (bench [(1#5, 0xFFFFFFFF80000000#64), (2#5, 0xFFFFFFFFFFFFFFFF#64)]))
      (fun t => (t.readHi, t.readLo)) = some (0#64, 0xFFFFFFFF80000000#64) ∧
    haltOf (run 0x0022001A#32 { bench [(1#5, 0xFFFFFFFF80000000#64), (2#5, 0xFFFFFFFFFFFFFFFF#64)] with
      params := { resetParams with divOverflow := .halt } }) = some (.divOverflow 0xFFFFFFFF80001000#64) ∧
    see (run 0x00001810#32 { bench [] with hi := 0x80000000#64 }) (fun t => t.gpr 3#5) = some 0xFFFFFFFF80000000#64 := by
  decide

/-- 95_test_vectors.md 2.2: pc, the branch taken, x[31] or x[5]. -/
theorem test_branch_vectors : ([
    (0x10220004#32, [(1#5, 7#64), (2#5, 7#64)], 0xFFFFFFFF80001004#64, some 0xFFFFFFFF80001014#64, 0#64),
    (0x10220004#32, [(1#5, 7#64), (2#5, 8#64)], 0xFFFFFFFF80001004#64, none, 0#64),
    (0x1420FFFF#32, [(1#5, 1#64)], 0xFFFFFFFF80001004#64, some 0xFFFFFFFF80001000#64, 0#64),
    (0x18200002#32, [(1#5, 0xFFFFFFFFFFFFFFFF#64)], 0xFFFFFFFF80001004#64, some 0xFFFFFFFF8000100C#64, 0#64),
    (0x1C200002#32, [(1#5, 0x8000000000000000#64)], 0xFFFFFFFF80001004#64, none, 0#64),
    (0x50220004#32, [(1#5, 1#64), (2#5, 2#64)], 0xFFFFFFFF80001008#64, none, 0#64),
    (0x54220004#32, [(1#5, 1#64), (2#5, 2#64)], 0xFFFFFFFF80001004#64, some 0xFFFFFFFF80001014#64, 0#64),
    (0x04200003#32, [(1#5, 0xFFFFFFFFFFFFFFFF#64)], 0xFFFFFFFF80001004#64, some 0xFFFFFFFF80001010#64, 0#64),
    (0x04310003#32, [(1#5, 0xFFFFFFFFFFFFFFFF#64)], 0xFFFFFFFF80001004#64, none, 0xFFFFFFFF80001008#64),
    (0x04320003#32, [], 0xFFFFFFFF80001008#64, none, 0xFFFFFFFF80001008#64),
    (0x08000100#32, [], 0xFFFFFFFF80001004#64, some 0xFFFFFFFF80000400#64, 0#64),
    (0x0C000100#32, [], 0xFFFFFFFF80001004#64, some 0xFFFFFFFF80000400#64, 0xFFFFFFFF80001008#64)].all fun p =>
    see (run p.1 (bench p.2.1)) (fun t => (t.pc, t.pending, t.gpr 31#5)) ==
      some (p.2.2.1, p.2.2.2.1.map (⟨·, .two⟩), p.2.2.2.2)) = true := by
  decide

/-- 95_test_vectors.md 2.2: JR, JALR, the BC1 branches, a branch in a delay slot. -/
theorem test_jump_register_vectors :
    see (run 0x03E00008#32 (bench [(31#5, 0xFFFFFFFF80000108#64)])) (fun t => (t.pc, t.pending)) =
      some (0xFFFFFFFF80001004#64, some ⟨0xFFFFFFFF80000108#64, .two⟩) ∧
    see (run 0x00802809#32 (bench [(4#5, 0xFFFFFFFF80000200#64)])) (fun t => (t.pending, t.gpr 5#5)) =
      some (some ⟨0xFFFFFFFF80000200#64, .two⟩, 0xFFFFFFFF80001008#64) ∧
    see (run 0x00802009#32 (bench [(4#5, 0xFFFFFFFF80000200#64)])) (fun t => (t.pending, t.gpr 4#5)) =
      some (some ⟨0xFFFFFFFF80000200#64, .two⟩, 0xFFFFFFFF80001008#64) ∧
    see (run 0x45010002#32 (fp 0#64 0#64 0x800000#32)) (fun t => t.pending) =
      some (some ⟨0xFFFFFFFF8000100C#64, .two⟩) ∧
    see (run 0x45030002#32 (bench [])) (fun t => (t.pc, t.pending)) = some (0xFFFFFFFF80001008#64, none) ∧
    haltOf (run 0x10000001#32 { bench [] with pending := some ⟨0#64, .one⟩ }) = some (.delaySlotCTI 0xFFFFFFFF80001000#64) := by decide

/-- The memory of the load and store vectors: 81 22 33 44 85 66 77 88 from 0x100 on. -/
def data (rs : List (Reg × Word)) : State :=
  { bench ((1#5, 0xFFFFFFFF80000100#64) :: rs) with mem := Memory.writeBE [] 0x100 8 0x8122334485667788#64 }

/-- 95_test_vectors.md 2.3: x[2] after a load. -/
theorem test_load_vectors : ([
    (0x80220000#32, 0xFFFFFFFFFFFFFF81#64), (0x90220000#32, 0x81#64), (0x84220002#32, 0x3344#64),
    (0x94220000#32, 0x8122#64), (0x8C220000#32, 0xFFFFFFFF81223344#64), (0x9C220000#32, 0x81223344#64),
    (0xDC220000#32, 0x8122334485667788#64), (0x88220001#32, 0x223344DD#64), (0x98220001#32, 0xFFFFFFFFAABB8122#64),
    (0x68220003#32, 0x4485667788BBCCDD#64), (0x6C220003#32, 0xFFFFFFFF81223344#64)].all fun p =>
    see (run p.1 (data [(2#5, 0xFFFFFFFFAABBCCDD#64)])) (fun t => t.gpr 2#5) == some p.2) = true := by
  decide

/-- 95_test_vectors.md 2.3: the eight bytes from 0x100 on after a store of x[2]. -/
theorem test_store_vectors : ([
    (0xA0220001#32, 0x8188334485667788#64), (0xA4220002#32, 0x8122778885667788#64), (0xAC220004#32, 0x8122334455667788#64),
    (0xFC220000#32, 0x1122334455667788#64), (0xA8220001#32, 0x8155667785667788#64), (0xB8220001#32, 0x7788334485667788#64),
    (0xB0220005#32, 0x8122334485112233#64), (0xB4220005#32, 0x3344556677887788#64)].all fun p =>
    see (run p.1 (data [(2#5, 0x1122334455667788#64)])) (fun t => t.mem.readBE 0x100 8) == some p.2) = true := by
  decide

/-- 95_test_vectors.md 2.3: translation, LL, SC, SCD; 2.9: the halts of an access (R172 under `MISALIGNED_DATA` = halt,
and byte by byte). -/
theorem test_access_vectors :
    haltOf (run 0x8C220000#32 (bench [(1#5, 0x1000#64)])) = some (.unmappedVirtual 0x1000#64) ∧
    haltOf (run 0x8C220000#32 (bench [(1#5, 0xFFFFFFFFC0000000#64)])) = some (.unmappedVirtual 0xFFFFFFFFC0000000#64) ∧
    see (run 0x8C220000#32 (data [(1#5, 0xFFFFFFFFA0000100#64)])) (fun t => t.gpr 2#5) = some 0xFFFFFFFF81223344#64 ∧
    see (run 0x8C220000#32 (data [(1#5, 0x80000100#64)])) (fun t => t.gpr 2#5) = some 0xFFFFFFFF81223344#64 ∧
    see (run 0x8C200000#32 (data [])) (fun t => t.gpr 0#5) = some 0#64 ∧
    haltOf (run 0x8C220002#32 { data [] with params := { resetParams with misaligned := .halt } }) = some (.misaligned 0xFFFFFFFF80000102#64 4) ∧
    see (run 0x8C220002#32 (data [])) (fun t => t.gpr 2#5) = some 0x33448566#64 ∧
    haltOf (run 0x8C220000#32 (bench [(1#5, 0xFFFFFFFFBFC00380#64)])) = some (.unmappedPhysical 0x1FC00380) ∧
    haltOf (run 0xAC220000#32 (bench [(1#5, 0xFFFFFFFFB0000000#64)])) = some (.readOnlyWrite 0x10000000) := by decide

theorem test_linked_vectors :
    see (run 0xC0220000#32 (data [])) (fun t => (t.gpr 2#5, t.llbit, t.cop0 17#5)) =
      some (0xFFFFFFFF81223344#64, true, 0x10#32) ∧
    see (run 0xE0220000#32 (data [(2#5, 0x99#64)])) (fun t => (t.gpr 2#5, t.mem.readBE 0x100 4)) =
      some (0#64, 0x81223344#64) ∧
    see (run 0xF0220000#32 { data [(2#5, 0x99#64)] with llbit := true })
      (fun t => (t.gpr 2#5, t.llbit, t.mem.readBE 0x100 8)) = some (1#64, false, 0x99#64) := by decide

/-- 95_test_vectors.md 2.3: COP1 loads and stores. -/
theorem test_cop1_memory_vectors :
    see (run 0xC4240004#32 ((data []).setSlot 4#5 0xAAAAAAAA00000000#64)) (fun t => t.slot 4#5) =
      some 0xAAAAAAAA85667788#64 ∧
    see (run 0xD4240000#32 (data [])) (fun t => t.slot 4#5) = some 0x8122334485667788#64 ∧
    see (run 0xF4240000#32 ((data []).setSlot 4#5 0x0102030405060708#64)) (fun t => t.mem.readBE 0x100 8) =
      some 0x0102030405060708#64 ∧
    see (run 0xE4240000#32 (withStatus 0x04000000#32 (data []))) (fun t => (t.cause, t.mem.readBE 0x100 4)) =
      some (0x1000002C#32, 0x81223344#64) ∧
    haltOf (run 0xD4230000#32 (withStatus 0x30000000#32 (data []))) = some (.oddFprPair 3#5) := by decide

/-- 95_test_vectors.md 2.4. -/
theorem test_cop0_vectors :
    see (run 0x40825800#32 ((bench [(2#5, 7#64)]).setCop0 13#5 0x8000#32)) (fun t => (t.cop0 11#5, t.cause)) =
      some (7#32, 0#32) ∧
    see (run 0x40826800#32 (bench [(2#5, 0xFFFFFFFF#64)])) (fun t => t.cause) = some 0x300#32 ∧
    see (run 0x40824800#32 (bench [(2#5, 100#64)])) (fun t => (t.ticks, t.count)) = some (200#64, 100#32) ∧
    see (run 0x40027800#32 (bench [])) (fun t => t.gpr 2#5) = some 0xB22#64 ∧
    see (run 0x40027000#32 ((bench []).setCop0 14#5 0x80000180#32)) (fun t => t.gpr 2#5) =
      some 0xFFFFFFFF80000180#64 ∧
    see (run 0x40A27000#32 (bench [(2#5, 0x1234567880000200#64)])) (fun t => t.cop0 14#5) = some 0x80000200#32 ∧
    haltOf (run 0x40020800#32 ((bench []).setCop0 6#5 32#32)) = some .randomRange ∧
    see (run 0x40226000#32 (withStatus 0xF4000000#32 (bench []))) (fun t => t.gpr 2#5) =
      some 0xFFFFFFFFF4000000#64 := by decide

/-- 95_test_vectors.md 2.4: Random with Wired = 31 has one value, whatever is drawn. -/
theorem test_random_with_wired_31 :
    see (run 0x40020800#32 ((bench []).setCop0 6#5 31#32)) (fun t => t.gpr 2#5) = some 0x1F#64 := by
  have : ∀ d, randomValue 31#32 d = 31#32 := fun d => by simp [randomValue, Nat.mod_one]
  show some ((State.setGpr _ 2#5 (sext32 (randomValue 31#32 (Config.randomDraw 0)))).gpr 2#5) = _
  rw [this]
  decide

/-- 95_test_vectors.md 2.4: ERET. -/
theorem test_eret_vectors :
    see (run 0x42000018#32 (((bench []).setCop0 14#5 0x80000040#32).setCop0 12#5 0x34000002#32))
      (fun t => (t.pc, t.status, t.pending)) = some (0xFFFFFFFF80000040#64, 0x34000000#32, none) ∧
    see (run 0x42000018#32 ((((bench []).setCop0 30#5 0xBFC00000#32).setCop0 14#5 0x80000040#32).setCop0 12#5
      0x34000006#32)) (fun t => (t.pc, t.status)) = some (0xFFFFFFFFBFC00000#64, 0x34000002#32) := by decide

/-- 95_test_vectors.md 2.5: pc, EPC, Cause, Status. -/
theorem test_system_vectors :
    let show4 (t : State) := (t.pc, t.cop0 14#5, t.cause, t.status)
    see (run 0x0000000C#32 (bench [])) show4 =
      some (0xFFFFFFFF80000180#64, 0x80001000#32, 0x20#32, 0x34000002#32) ∧
    see (run 0x0000000C#32 { bench [] with pc := 0xFFFFFFFF80001008#64, pending := some ⟨0#64, .one⟩ })
      (fun t => (t.cop0 14#5, t.cause, t.pending)) = some (0x80001000#32, 0x80000020#32, none) ∧
    see (run 0x0000000C#32 (withStatus 0x34400000#32 (bench []))) (fun t => (t.pc, t.status)) =
      some (0xFFFFFFFFBFC00380#64, 0x34400002#32) ∧
    see (run 0x0000000D#32 (bench [])) show4 =
      some (0xFFFFFFFF80000180#64, 0x80001000#32, 0x24#32, 0x34000002#32) := by decide

theorem test_trap_vectors :
    see (run 0x00220034#32 (bench [(1#5, 3#64), (2#5, 3#64)])) (fun t => (t.pc, t.cause)) =
      some (0xFFFFFFFF80000180#64, 0x34#32) ∧
    see (run 0x00220034#32 (bench [(1#5, 3#64), (2#5, 4#64)])) (fun t => (t.pc, t.cause)) =
      some (0xFFFFFFFF80001004#64, 0#32) ∧
    see (run 0x042BFFFF#32 (bench [(1#5, 5#64)])) (fun t => t.cause) = some 0x34#32 ∧
    see (run 0x04280000#32 (bench [(1#5, 0xFFFFFFFFFFFFFFFF#64)])) (fun t => t.cause) = some 0#32 ∧
    see (run 0x00000030#32 (bench [])) (fun t => t.cause) = some 0x34#32 ∧
    see (run 0x42000008#32 ((bench []).setCop0 0#5 5#32)) id = some ((bench []).setCop0 0#5 5#32) ∧
    see (run 0xBC900000#32 (bench [])) id = some (bench []) ∧ see (run 0x0000000F#32 (bench [])) id = some (bench []) := by decide

/-- 95_test_vectors.md 2.6: slot 4 after an operation on slots 2 and 0. -/
theorem test_fp_arithmetic_vectors : ([
    (0x46001100#32, 0x3F800000#64, 0x40000000#64, 0x40400000#64), (0x46001101#32, 0x3F800000#64, 0x40000000#64, 0x3F800000#64),
    (0x46001102#32, 0x3FC00000#64, 0x40000000#64, 0x40400000#64), (0x46001103#32, 0x40000000#64, 0x3F800000#64, 0x3F000000#64),
    (0x46001103#32, 0#64, 0x3F800000#64, 0x7F800000#64), (0x46001104#32, 0#64, 0x40800000#64, 0x40000000#64),
    (0x46001105#32, 0#64, 0xBF800000#64, 0x3F800000#64), (0x46001107#32, 0#64, 0x3F800000#64, 0xBF800000#64),
    (0x46201100#32, 0x3FF0000000000000#64, 0x4000000000000000#64, 0x4008000000000000#64),
    (0x46201102#32, 0x3FF8000000000000#64, 0x4000000000000000#64, 0x4008000000000000#64),
    (0x46201106#32, 0#64, 0x400921FB54442D18#64, 0x400921FB54442D18#64)].all fun p =>
    see (run p.1 (fp p.2.1 p.2.2.1 0#32)) (fun t => t.slot 4#5) == some p.2.2.2) = true := by
  decide

/-- 95_test_vectors.md 2.6: upper halves, pairs, CU1 = 0, moves. -/
theorem test_cop1_move_vectors :
    see (run 0x46001106#32 ((fp 0#64 0x3F800000#64 0#32).setSlot 4#5 0xAAAAAAAA00000000#64)) (fun t => t.slot 4#5) =
      some 0xAAAAAAAA3F800000#64 ∧
    see (run 0x46001100#32 (withStatus 0x04000000#32 (bench [])))
      (fun t => (t.cause, t.cop0 14#5, t.status, t.pc, t.slot 4#5)) =
      some (0x1000002C#32, 0x80001000#32, 0x04000002#32, 0xFFFFFFFF80000180#64, 0#64) ∧
    haltOf (run 0x46200900#32 (withStatus 0x30000000#32 (bench []))) = some (.oddFprPair 1#5) ∧
    see (run 0x46201100#32 (withStatus 0x30000000#32 (((fp 0#64 0#64 0#32).setSlot 1#5 0x3FF00000#64).setSlot 3#5
      0x40000000#64))) (fun t => (t.slot 4#5, t.slot 5#5)) = some (0#64, 0x40080000#64) ∧
    see (run 0x44822000#32 ((bench [(2#5, 0x3F800000#64)]).setSlot 4#5 0x1111111122222222#64)) (fun t => t.slot 4#5) =
      some 0x111111113F800000#64 ∧
    see (run 0x44020800#32 ((bench []).setSlot 1#5 0x12345678BF800000#64)) (fun t => t.gpr 2#5) =
      some 0xFFFFFFFFBF800000#64 ∧
    see (run 0x4442F800#32 (fp 0#64 0#64 0x00800001#32)) (fun t => t.gpr 2#5) = some 0x800001#64 ∧
    see (run 0x44420000#32 (bench [])) (fun t => t.gpr 2#5) = some 0xA00#64 := by decide

/-- 95_test_vectors.md 2.7: slot 4 after a conversion of slot 2 under an FCSR. -/
theorem test_conversion_vectors : ([
    (0x46001124#32, 0x40200000#64, 0#32, 2#64), (0x46001124#32, 0x40200000#64, 1#32, 2#64),
    (0x46001124#32, 0x40200000#64, 2#32, 3#64), (0x46001124#32, 0x40200000#64, 3#32, 2#64),
    (0x46001124#32, 0xC0200000#64, 3#32, 0xFFFFFFFD#64), (0x4600110C#32, 0x40600000#64, 1#32, 4#64),
    (0x4600110D#32, 0xC0200000#64, 0#32, 0xFFFFFFFE#64), (0x4600110E#32, 0xC0200000#64, 0#32, 0xFFFFFFFE#64),
    (0x4600110F#32, 0xC0200000#64, 0#32, 0xFFFFFFFD#64),
    (0x46201109#32, 0xBFF8000000000000#64, 0#32, 0xFFFFFFFFFFFFFFFF#64),
    (0x46201120#32, 0x3FD5555555555555#64, 0#32, 0x3EAAAAAB#64),
    (0x46001121#32, 0x3F800000#64, 0#32, 0x3FF0000000000000#64), (0x46801120#32, 0xFFFFFFFF#64, 0#32, 0xBF800000#64),
    (0x46A01121#32, 0x20000000000001#64, 0#32, 0x4340000000000000#64)].all fun p =>
    see (run p.1 (fp 0#64 p.2.1 p.2.2.1)) (fun t => t.slot 4#5) == some p.2.2.2) = true := by
  decide

/-- 95_test_vectors.md 2.8: FCSR (with RM = 3, and C set before) after a compare of 1 with 2, 2 with 1, 1 with 1 and a
NaN with 1, in the order of the funct codes; the compares that the file leaves out follow R657. -/
theorem test_compare_vectors : ([
    (0x46020030#32, false, false, false, false), (0x46020031#32, false, false, false, true),
    (0x46020032#32, false, false, true, false), (0x46020033#32, false, false, true, true),
    (0x46020034#32, true, false, false, false), (0x46020035#32, true, false, false, true),
    (0x46020036#32, true, false, true, false), (0x46020037#32, true, false, true, true),
    (0x4602003C#32, true, false, false, false), (0x4602003D#32, true, false, false, true),
    (0x4602003E#32, true, false, true, false), (0x4602003F#32, true, false, true, true)].all fun p =>
    let c (a b : Word) := see (run p.1 (fp a b 0x00800003#32)) (fun t => t.fcr31)
    let out (b : Bool) : Option Word32 := some (if b then 0x800003#32 else 3#32)
    c 0x3F800000#64 0x40000000#64 == out p.2.1 && c 0x40000000#64 0x3F800000#64 == out p.2.2.1 &&
      c 0x3F800000#64 0x3F800000#64 == out p.2.2.2.1 && c 0x7FC00000#64 0x3F800000#64 == out p.2.2.2.2) = true := by
  decide

/-! ## Steps (95_test_vectors.md 2.10)

From P = 0xFFFFFFFF80001000, memory 0 (NOPs), Compare = 99. -/

/-- The start state of the step vectors. -/
def start (status cause : Word32) : State :=
  { (((bench []).setCop0 12#5 status).setCop0 13#5 cause).setCop0 11#5 99#32 with pc := 0xFFFFFFFF80001000#64 }

/-- Place a word. -/
def put (pa : Nat) (w : Word) (s : State) : State := { s with mem := s.mem.writeBE pa 4 w }

/-- pc, EPC, Cause, Status after a step. -/
def after (s : State) : Option (Word × Word32 × Word32 × Word32) :=
  match step s with
  | .next t => some (t.pc, t.cop0 14#5, t.cause, t.status)
  | _ => none

/-- E2 to E6, E8: the interrupt check. -/
theorem test_interrupt_vectors : ([
    (0x8003#32, 0x8000#32, 0xFFFFFFFF80001004#64, 0#32, 0x8000#32, 0x8003#32),
    (0x8005#32, 0x8000#32, 0xFFFFFFFF80001004#64, 0#32, 0x8000#32, 0x8005#32),
    (0x8000#32, 0x8000#32, 0xFFFFFFFF80001004#64, 0#32, 0x8000#32, 0x8000#32),
    (0x0401#32, 0x8000#32, 0xFFFFFFFF80001004#64, 0#32, 0x8000#32, 0x0401#32),
    (0x0401#32, 0x0400#32, 0xFFFFFFFF80000184#64, 0x80001000#32, 0x0400#32, 0x0403#32)].all fun p =>
    after (start p.1 p.2.1) == some p.2.2) = true := by
  decide

/-- E8: an interrupt before a delay slot. -/
theorem test_interrupt_before_a_delay_slot : after { start 0x8001#32 0x8000#32 with
    pc := 0xFFFFFFFF80001004#64, pending := some ⟨0xFFFFFFFF80002000#64, .one⟩ } =
    some (0xFFFFFFFF80000184#64, 0x80001000#32, 0x80008000#32, 0x8003#32) := by decide

/-- E9, E10, E11 (first step), E17: exceptions and their returns. -/
theorem test_exception_step_vectors :
    after (put 0x1000 0x46001100#64 (start 0x04000002#32 0#32)) =
      some (0xFFFFFFFF80000180#64, 0x80001000#32, 0x1000002C#32, 0x04000002#32) ∧
    after (put 0x1000 0x46001100#64 (start 0x04400000#32 0#32)) =
      some (0xFFFFFFFFBFC00380#64, 0x80001000#32, 0x1000002C#32, 0x04400002#32) ∧
    after (put 0x1004 0x46001100#64 { start 0x04000000#32 0#32 with
      pc := 0xFFFFFFFF80001004#64, pending := some ⟨0xFFFFFFFF80001014#64, .one⟩ }) =
      some (0xFFFFFFFF80000180#64, 0x80001000#32, 0x9000002C#32, 0x04000002#32) ∧
    after (put 0x180 0x42000018#64 (start 0x8001#32 0x8000#32)) =
      some (0xFFFFFFFF80001000#64, 0x80001000#32, 0x8000#32, 0x8001#32) := by decide

/-- E1 (first step), E16: the timer. -/
theorem test_timer_vectors :
    (match step { (start 0x8001#32 0#32).setCop0 11#5 3#32 with ticks := 5#64 } with
      | .next t => some (t.ticks, t.cause, t.pc)
      | _ => none) = some (6#64, 0x8000#32, 0xFFFFFFFF80001004#64) ∧
    (match step { (start 0#32 0#32).setCop0 11#5 0#32 with ticks := 0x1FFFFFFFF#64 } with
      | .next t => some (t.ticks, t.count, t.cause)
      | _ => none) = some (0x200000000#64, 0#32, 0x8000#32) := by decide

/-- E11 to E15: the halts of a step, and the state that a halt leaves. -/
theorem test_halt_step_vectors :
    haltOf (step { start 0#32 0#32 with pc := 0xFFFFFFFFBFC00380#64 }) = some (.unmappedPhysical 0x1FC00380) ∧
    haltOf (step { start 0#32 0#32 with pc := 0xFFFFFFFF80002001#64 }) = some (.misaligned 0xFFFFFFFF80002001#64 4) ∧
    haltOf (step { start 0#32 0#32 with pc := 0x400000#64 }) = some (.unmappedVirtual 0x400000#64) ∧
    (let t := tick 3 (put 0x1000 1#64 (start 0#32 0#32)); (t.ticks, t.halted)) = (1#64, some (.unimplemented 1#32)) := by
  decide

/-- S4 (R431): the delayed branch counts down, then fires. -/
theorem test_delayed_branch_fires :
    see (step (put 0x1000 0x10000002#64 (start 0#32 0#32))) (fun t => (t.pc, t.pending)) =
      some (0xFFFFFFFF80001004#64, some ⟨0xFFFFFFFF8000100C#64, .one⟩) ∧
    see (step { start 0#32 0#32 with pending := some ⟨0xFFFFFFFF8000100C#64, .one⟩ }) (fun t => (t.pc, t.pending)) =
      some (0xFFFFFFFF8000100C#64, none) := by decide

/-- The interrupt controller by the register map of R741. -/
def mapped (s : State) : State := { s with params := { s.params with miMap := .registers } }

/-- S8 (R743): MI_INTR bit 3 masked, then a store of 0x80 to MI_MASK; R282: a mask change by the environment. -/
theorem test_aggregation :
    (applyEnv { bench [] with env := [{ intr := some 8#6 }] }).cause = 0#32 ∧
    see (run 0xAC220000#32 { mapped (bench [(1#5, 0xFFFFFFFFA430000C#64), (2#5, 0x80#64)]) with miIntr := 8#6 })
      (fun t => (t.miMask, t.cause)) = some (8#6, 0x400#32) ∧
    (applyEnv { bench [] with miIntr := 8#6, env := [{ mask := some 8#6 }] }).cause = 0x400#32 := by decide

/-- R163 to R165: a device register that the environment changes; a word's bytes, the most significant first. -/
theorem test_register_blocks :
    ((applyEnv { bench [] with env := [{ regs := [⟨.pif, 0x3F, 0x5A#8⟩] }] }).block .pif).byte 0x3F = 0x5A#8 ∧
    storedBytes .vi 8 4 0x11223344#64 =
      [⟨.vi, 8, 0x11#8⟩, ⟨.vi, 9, 0x22#8⟩, ⟨.vi, 10, 0x33#8⟩, ⟨.vi, 11, 0x44#8⟩] := by decide

/-! ## Witnesses

For every statement with hypotheses, a state and operands that meet them, clause by clause. -/

theorem next_of_see {r : Result} (h : see r (fun _ => ()) = some ()) : ∃ t, r = .next t := by
  cases r with
  | next t => exact ⟨t, rfl⟩
  | fault f => cases h
  | refused x => cases h

theorem fault_of_haltOf {r : Result} {f : Fault} (h : haltOf r = some f) : r = .fault f := by
  cases r with
  | next t => cases h
  | fault g => exact congrArg _ (Option.some.inj h)
  | refused x => cases h

theorem read_of_ok {r : Except Fault (Word × State)} {p : Word × State} (h : r = .ok p) : ∃ v u, r = .ok (v, u) :=
  ⟨p.1, p.2, h⟩

/-- `data` with FR = 0 and CU1 = 1. -/
def paired : State := withStatus 0x30000000#32 (data [])

/-- An access to main RAM: in the middle, at its last bytes, and misaligned (byte by byte). -/
theorem memory_at (n : Nat) (hn : n ∈ [1, 2, 4, 8]) : MemoryAccess (data []) n 0xFFFFFFFF80000100#64 0x100 := by
  fin_cases hn <;> exact ⟨.inl (by decide), by decide, ⟨0, 0x7FFFFF, .memory⟩, by decide, rfl, by decide⟩

theorem memory_end (n : Nat) (hn : n ∈ [1, 2, 4, 8]) :
    MemoryAccess (data []) n (0xFFFFFFFF80800000#64 - BitVec.ofNat 64 n) (0x800000 - n) := by
  fin_cases hn <;> exact ⟨.inl (by decide), by decide, ⟨0, 0x7FFFFF, .memory⟩, by decide, rfl, by decide⟩

theorem memory_misaligned : MemoryAccess (data []) 8 0xFFFFFFFFA0000103#64 0x103 :=
  ⟨.inr (by decide), by decide, ⟨0, 0x7FFFFF, .memory⟩, by decide, rfl, by decide⟩

theorem memory_paired (n : Nat) (hn : n ∈ [4, 8]) : MemoryAccess paired n 0xFFFFFFFF80000100#64 0x100 := by
  fin_cases hn <;> exact ⟨.inl (by decide), by decide, ⟨0, 0x7FFFFF, .memory⟩, by decide, rfl, by decide⟩

theorem data_wf : (data []).mem.wf := Memory.wf_writeBE _ _ _ Memory.wf_nil

theorem data_blocks_wf (id : DeviceId) : ((data []).blocks.get id).wf := by cases id <;> decide

theorem test_witness_DecodeOfEncode : (Instr.sll 31#5 0#5 0#5).wellFormed = true ∧
    (Instr.cache 31#5 31#5 0xFFFF#16).wellFormed = true ∧ (Instr.jal 0x3FFFFFF#26).wellFormed = true ∧
    (Instr.cNgtD 31#5 31#5).wellFormed = true := by decide

theorem test_witness_DecodedWordHasItsKeyBits : decode 0xFFFFFFFF#32 = .ok (.sd 31#5 31#5 0xFFFF#16) := by decide

theorem test_witness_KeyBitsDecideTheInstruction :
    (0x00200000#32 ≠ 0#32 ∧ 0x00200000#32 &&& (Instr.sll 0#5 0#5 0#5).mask32 = (Instr.sll 0#5 0#5 0#5).match32) ∧
    (0x42000058#32 ≠ 0x42000018#32 ∧ (0x42000058#32 : Word32).extractLsb' 21 11 = 0x210#11 ∧
      (0x42000058#32 : Word32).extractLsb' 0 6 = 0x18#6) := by decide

theorem test_witness_UndecodableWordHalts :
    (start 0#32 0#32).halted = none ∧
    (∃ t, fetch (prefetch (put 0x1000 1#64 (start 0#32 0#32))) = .ok (1#32, t)) ∧
    decode 1#32 = .error (.special 1#6) ∧ decode 12#32 = .ok (.syscall 0#20) ∧
    (∃ t, fetch (prefetch (put 0x1000 12#64 { start 0#32 0#32 with params :=
      { resetParams with trapInsns := .halt } })) = .ok (12#32, t) ∧
      t.params.trapInsns = .halt) ∧
    implemented { resetParams with trapInsns := .halt } (.syscall 0#20) = false ∧
    (Instr.add 1#5 2#5 3#5 ≠ .nop ∧ (Instr.add 1#5 2#5 3#5).mnemonic ∈ ["ADD"]) ∧
    isTrap (.tnei 1#5 0#16) = true ∧
    (resetParams.excluded = [] ∧ resetParams.trapInsns = .raise ∧ resetParams.tlbOps = .nop) := by
  refine ⟨rfl, ⟨_, rfl⟩, by decide, by decide, ⟨_, rfl, rfl⟩, by decide, by decide, by decide, by decide⟩

/-- The instruction at P completes without a branch, with a new branch, with a branch that fires, and halts. -/
theorem test_witness_StepRunsTheDecodedInstruction :
    (start 0#32 0#32).halted = none ∧ (prefetch (start 0#32 0#32)).pc.toNat % 4 = 0 ∧
    MemoryAccess (prefetch (put 0x1000 0x10000002#64 (start 0#32 0#32))) 4 0xFFFFFFFF80001000#64 0x1000 ∧
    decodeBytes [0x10#8, 0#8, 0#8, 2#8] = .ok (.beq 0#5 0#5 2#16, []) ∧
    implemented resetParams (.beq 0#5 0#5 2#16) = true ∧
    see (exec .nop (bench [])) (·.pending) = some none ∧
    see (exec (.beq 0#5 0#5 2#16) (bench [])) (·.pending) = some (some ⟨0xFFFFFFFF8000100C#64, .two⟩) ∧
    see (exec .nop { bench [] with pending := some ⟨8#64, .one⟩ }) (·.pending) = some (some ⟨8#64, .one⟩) ∧
    haltOf (exec (.lw 0#5 1#5 0#16) (bench [])) = some (.unmappedVirtual 0#64) := by
  refine ⟨rfl, by decide, ⟨.inl (by decide), by decide, ⟨0, 0x7FFFFF, .memory⟩, by decide, rfl, by decide⟩, by decide,
    by decide, by decide, by decide, by decide, by decide⟩

theorem test_witness_HaltedIsAbsorbing : ({ bench [] with halted := some Fault.randomRange } : State).halted =
    some Fault.randomRange := rfl

theorem test_witness_TicksAdvanceByOne : (∃ t, step (start 0#32 0#32) = .next t) ∧
    (∃ t, step (put 0x1000 0x40814800#64 (start 0#32 0#32)) = .next t) ∧
    decode 0x40814800#32 = .ok (.mtc0 1#5 9#5) :=
  ⟨next_of_see (by decide), next_of_see (by decide), by decide⟩

theorem test_witness_InterruptCheck :
    (let s := start 0x8001#32 0x8000#32
     s.status.getLsbD 0 = true ∧ s.status.getLsbD 1 = false ∧ s.status.getLsbD 2 = false ∧
        (s.cause &&& s.status) &&& 0xFF00#32 ≠ 0#32) ∧
    (let s := start 0x0101#32 0x0100#32
     s.status.getLsbD 0 = true ∧ s.status.getLsbD 1 = false ∧ s.status.getLsbD 2 = false ∧
        (s.cause &&& s.status) &&& 0xFF00#32 ≠ 0#32) ∧
    (start 0x8003#32 0x8000#32).status.getLsbD 1 = true ∧
    ((start 0x8001#32 0x4000#32).cause &&& (start 0x8001#32 0x4000#32).status) &&& 0xFF00#32 = 0#32 := by decide

/-- Every trap condition holds for one pair of values and fails for another. -/
theorem test_witness_SystemCallsAndTraps :
    ([(5#64, 5#64, 5#16), (5#64, 6#64, 6#16), (0#64, 0xFFFFFFFFFFFFFFFF#64, 0xFFFF#16)].map fun p =>
      let x := p.1
      let y := p.2.1
      let z : Word := p.2.2.signExtend 64
      [decide (y.toInt ≤ x.toInt), decide (y.toNat ≤ x.toNat), decide (x.toInt < y.toInt), decide (x.toNat < y.toNat),
        decide (x = y), decide (x ≠ y), decide (z.toInt ≤ x.toInt), decide (z.toNat ≤ x.toNat),
        decide (x.toInt < z.toInt), decide (x.toNat < z.toNat), decide (x = z), decide (x ≠ z)]) =
    [[true, true, false, false, true, false, true, true, false, false, true, false],
      [false, false, true, true, false, true, false, false, true, true, false, true],
      [true, false, false, true, false, true, true, false, false, true, false, true]] := by decide

theorem test_witness_UnusableCop1Raises :
    (∀ i ∈ [Instr.addS 0#5 0#5 0#5, .swc1 1#5 0#5 0#16, .bc1t 0#16], usesCop1 i = true) ∧
    (start 0x04000000#32 0#32).status.getLsbD 29 = false ∧ isControlTransfer (.bc1t 0#16) = true ∧
    (start 0x04000000#32 0#32).pending = none := by decide

theorem test_witness_EretReturns : NotInDelaySlot (start 2#32 0#32) ∧ (start 2#32 0#32).status.getLsbD 2 = false ∧
    (start 6#32 0#32).status.getLsbD 2 = true := ⟨rfl, by decide, by decide⟩

theorem test_witness_ExceptionReturnsToItsInstruction : (start 3#32 0#32).status.getLsbD 2 = false := by decide

theorem test_witness_ControlTransferInDelaySlotHalts :
    (∀ i ∈ [Instr.eret, .bc1fl 0#16, .jalr 1#5 2#5, .bgezall 1#5 0#16], isControlTransfer i = true) ∧
    ({ bench [] with pending := some ⟨0#64, .one⟩ } : State).pending ≠ none := by decide

/-- No action; actions that set pending bits, mask bits, a register; a store to MI_MASK that sets every bit, clears
every bit, sets bit 3. -/
theorem test_witness_AggregateFollowsThePendingAndMaskBits :
    (bench []).env = [] ∧
    (∀ a ∈ [({ intr := some 8#6 } : EnvAction), { mask := some 0x3F#6 }, { regs := [⟨.vi, 0x10, 1#8⟩] }],
      ({ bench [] with env := [a] } : State).env = [a]) ∧
    (({ intr := some 8#6 } : EnvAction).intr ≠ none ∧ ({ mask := some 0x3F#6 } : EnvAction).mask ≠ none) ∧
    (mapped (bench [])).params.miMap = .registers ∧
    (bench [(1#5, 0xFFFFFFFFA430000C#64)]).gpr 1#5 + (0#16 : Half).signExtend 64 = 0xFFFFFFFFA430000C#64 ∧
    (0xFFFFFFFFA430000C#64 : Word).toNat % 4 = 0 ∧
    translateAddr 0xFFFFFFFFA430000C#64 = .ok (0x04300000 + 12) ∧
    route resetParams.physMap (0x04300000 + 12) = some ⟨0x04300000, 0x043FFFFF, .device .mi 16⟩ ∧
    (∀ k : Fin 6, (0xAAA#64 : Word).getLsbD (2 * k) = false ∨ (0xAAA#64 : Word).getLsbD (2 * k + 1) = false) ∧
    (∀ k : Fin 6, (0x555#64 : Word).getLsbD (2 * k) = false ∨ (0x555#64 : Word).getLsbD (2 * k + 1) = false) ∧
    (∀ k : Fin 6, (0x80#64 : Word).getLsbD (2 * k) = false ∨ (0x80#64 : Word).getLsbD (2 * k + 1) = false) := by
  refine ⟨rfl, fun _ _ => rfl, by decide, rfl, by decide, by decide, rfl, by decide, by decide, by decide, by decide⟩

/-- A state with a due branch, a pending and masked interrupt and data in memory that meets the invariant and steps. -/
theorem test_witness_StepKeepsTheInvariant :
    let s := { (data []).setCop0 13#5 0x80008400#32 with
      miIntr := 8#6, miMask := 8#6, pc := 0xFFFFFFFF80001000#64, pending := some ⟨0xFFFFFFFF80002000#64, .one⟩ }
    s.Inv ∧ ∃ t, step s = .next t := by
  refine ⟨⟨data_wf, data_blocks_wf, ?_, by decide, by decide, by decide, by decide, by decide, by decide, by decide⟩,
    next_of_see (by decide)⟩
  rintro p h
  rw [← Option.some.inj h]

theorem test_witness_ResetValues : (∀ c ∈ [((0x04000000 : Nat), 1#8)], c.1 ≠ 0x04000001) ∧
    (∀ r ∈ [(⟨.pif, 0, 1#8⟩ : RegByte)], ¬ (r.id = .pif ∧ r.off = 1)) ∧
    (∀ q ∈ [(⟨.pif, 1, 2#8⟩ : RegByte)], ¬ (q.id = .pif ∧ q.off = 0)) ∧
    ({ suggestedBoot [] with regs := [⟨.pif, 0, 7#8⟩, ⟨.pif, 0, 1#8⟩, ⟨.pif, 1, 2#8⟩] } : Boot).regs =
      [⟨.pif, 0, 7#8⟩] ++ ⟨.pif, 0, 1#8⟩ :: [⟨.pif, 1, 2#8⟩] ∧
    (∀ d ∈ [((0x04000001 : Nat), 2#8)], d.1 ≠ 0x04000000) ∧
    (suggestedBoot [1#8, 2#8]).image = [] ++ (0x04000000, 1#8) :: [(0x04000001, 2#8)] := by decide

theorem test_witness_ZeroRegister : (31#5 : Reg) ≠ 0#5 ∧ (0#5 : Reg) ≠ 31#5 := by decide

theorem test_witness_OneGeneralRegisterIsWritten :
    (∃ t, exec (.addu 1#5 2#5 3#5) (bench []) = .next t) ∧ gprDest (.addu 1#5 2#5 3#5) ≠ some 1#5 ∧
    (∃ t, exec (.bgezal 1#5 0#16) (bench []) = .next t) ∧ gprDest (.bgezal 1#5 0#16) ≠ some 1#5 ∧
    (∃ t, exec (.sw 1#5 2#5 0#16) (data []) = .next t) ∧ gprDest (.sw 1#5 2#5 0#16) ≠ some 2#5 :=
  ⟨next_of_see (by decide), by decide, next_of_see (by decide), by decide, next_of_see (by decide), by decide⟩

theorem test_witness_HiLoFcsrAndLlbitWriters :
    (∃ t, exec (.mtlo 1#5) (bench []) = .next t) ∧ writesHi (.mtlo 1#5) = false ∧
    (∃ t, exec (.mthi 1#5) (bench []) = .next t) ∧ writesLo (.mthi 1#5) = false ∧
    (∃ t, exec (.ctc1 1#5 0#5) (bench []) = .next t) ∧ isCompare (.ctc1 1#5 0#5) = false ∧
    (∃ t, exec (.cEqS 0#5 0#5) (bench []) = .next t) ∧ (∃ t, exec (.ll 1#5 2#5 0#16) (data []) = .next t) ∧
    (∃ t, exec (.scd 1#5 2#5 0#16) (data []) = .next t) ∧ (∃ t, exec .eret (bench []) = .next t) ∧
    (∃ t, exec (.sw 1#5 2#5 0#16) (data []) = .next t) :=
  ⟨next_of_see (by decide), by decide, next_of_see (by decide), by decide, next_of_see (by decide), by decide,
    next_of_see (by decide), next_of_see (by decide), next_of_see (by decide), next_of_see (by decide),
    next_of_see (by decide)⟩

theorem test_witness_FprWriters :
    (∃ t, exec (.movD 2#5 4#5) (bench []) = .next t) ∧ (bench []).status.getLsbD 26 = true ∧
    (∃ t, exec (.movD 2#5 4#5) paired = .next t) ∧ paired.status.getLsbD 26 = false ∧
    fprDest32 (.movD 2#5 4#5) ≠ some 6#5 ∧ fprDest64 (.movD 2#5 4#5) ≠ some 6#5 ∧ (6#5 : Reg) ≠ 4#5 + 1#5 ∧
    (∃ t, exec (.movS 2#5 4#5) (bench []) = .next t) ∧ fprDest64 (.movS 2#5 4#5) = none :=
  ⟨next_of_see (by decide), by decide, next_of_see (by decide), by decide, by decide, by decide, by decide,
    next_of_see (by decide), by decide⟩

theorem test_witness_Cop0Writers :
    (∃ t, exec (.sw 1#5 2#5 0#16) (data []) = .next t) ∧ isTrap (.sw 1#5 2#5 0#16) = false ∧
    usesCop1 (.sw 1#5 2#5 0#16) = false ∧ (∃ t, exec (.addS 0#5 0#5 0#5) (bench []) = .next t) ∧
    usesCop1 (.addS 0#5 0#5 0#5) = true ∧ (bench []).status.getLsbD 29 = true ∧
    isStore (.addS 0#5 0#5 0#5) = false :=
  ⟨next_of_see (by decide), by decide, by decide, next_of_see (by decide), by decide, by decide, by decide⟩

theorem test_witness_MemoryWriters : (∃ t, exec (.ll 1#5 2#5 0#16) (data []) = .next t) ∧
    isStore (.ll 1#5 2#5 0#16) = false := ⟨next_of_see (by decide), by decide⟩

theorem test_witness_PcAndPendingWriters : (∃ t, exec (.movS 0#5 0#5) (bench []) = .next t) ∧
    isControlTransfer (.movS 0#5 0#5) = false ∧ isTrap (.movS 0#5 0#5) = false ∧
    (bench []).status.getLsbD 29 = true := ⟨next_of_see (by decide), by decide, by decide, by decide⟩

theorem test_witness_Divide :
    (low32 0xFFFFFFFF00000000#64 = 0#32 ∧ (0#64 : Word) = 0#64) ∧
    ((low32 0x80000000#64).toInt = -2 ^ 31 ∧ (low32 0xFFFFFFFF#64).toInt = -1) ∧
    ((0x8000000000000000#64 : Word).toInt = -2 ^ 63 ∧ (0xFFFFFFFFFFFFFFFF#64 : Word).toInt = -1) ∧
    (bench []).params.divOverflow = .mips ∧ ({ resetParams with divOverflow := .halt } : Params).divOverflow = .halt ∧
    (low32 2#64 ≠ 0#32 ∧ ¬ ((low32 0xFFFFFFF9#64).toInt = -2 ^ 31 ∧ (low32 2#64).toInt = -1)) ∧
    ((1#64 : Word) ≠ 0#64 ∧ ¬ ((0x8000000000000000#64 : Word).toInt = -2 ^ 63 ∧ (1#64 : Word).toInt = -1)) := by
  decide

theorem test_witness_Jumps : NotInDelaySlot (bench []) := rfl

/-- Each branch condition holds for one value and fails for another. -/
theorem test_witness_IntegerBranches : NotInDelaySlot (bench []) ∧
    ([0#64, 0xFFFFFFFFFFFFFFFF#64, 1#64].map fun x : Word => [decide (x = 0#64), decide (x ≠ 0#64),
      decide (x.toInt ≤ 0), decide (0 < x.toInt), decide (x.toInt < 0), decide (0 ≤ x.toInt)]) =
    [[true, false, true, false, false, true], [false, true, true, false, true, false],
      [false, true, false, true, false, true]] := ⟨rfl, by decide⟩

theorem test_witness_Cop1Branches : NotInDelaySlot (bench []) ∧ Cop1Usable (bench []) ∧
    (fp 0#64 0#64 0x800000#32).fcr31.getLsbD 23 = true ∧ (fp 0#64 0#64 0#32).fcr31.getLsbD 23 = false :=
  ⟨rfl, (by decide : (bench []).status.getLsbD 29 = true), by decide, by decide⟩

/-- The ends of the segments. -/
theorem test_witness_Translation :
    ([0x7FFFFFFF#64, 0x80000000#64, 0x9FFFFFFF#64, 0xA0000000#64, 0xBFFFFFFF#64, 0xC0000000#64].map fun va : Word =>
      (translateAddr va).toOption) =
    [none, some 0, some 0x1FFFFFFF, some 0, some 0x1FFFFFFF, none] ∧
    (0x7FFFFFFF#64 : Word).toNat % 2 ^ 32 < 0x80000000 ∧
    (0x80000000 ≤ (0x9FFFFFFF#64 : Word).toNat % 2 ^ 32 ∧ (0x9FFFFFFF#64 : Word).toNat % 2 ^ 32 < 0xA0000000) ∧
    (0xA0000000 ≤ (0xBFFFFFFF#64 : Word).toNat % 2 ^ 32 ∧ (0xBFFFFFFF#64 : Word).toNat % 2 ^ 32 < 0xC0000000) ∧
    0xC0000000 ≤ (0xC0000000#64 : Word).toNat % 2 ^ 32 := by decide

/-- Misaligned; unmapped; a hole; the end of RAM, byte by byte; ROM without an image; the end of the ROM row and of a
device row, byte by byte; the end of a ROM image of 8 bytes, byte by byte; misaligned and failing fetches. -/
theorem test_witness_AccessHalts :
    ((0xFFFFFFFF80000102#64 : Word).toNat % 4 ≠ 0 ∧
      ({ resetParams with misaligned := .halt } : Params).misaligned = MisalignedData.halt) ∧
    translateAddr 0x1000#64 = .error (.unmappedVirtual 0x1000#64) ∧
    (translateAddr 0xFFFFFFFFBFC00380#64 = .ok 0x1FC00380 ∧ route resetParams.physMap 0x1FC00380 = none) ∧
    (resetParams.misaligned = .bytewise ∧ translateAddr 0xFFFFFFFF807FFFFD#64 = .ok 0x7FFFFD ∧
      route resetParams.physMap 0x7FFFFD = some ⟨0, 0x7FFFFF, .memory⟩ ∧ 0x7FFFFF < 0x7FFFFD + 4 - 1) ∧
    (translateAddr 0xFFFFFFFFB0000000#64 = .ok 0x10000000 ∧
      route resetParams.physMap 0x10000000 = some ⟨0x10000000, 0x1FBFFFFF, .rom⟩ ∧
      0x10000000 + 4 - 1 ≤ 0x1FBFFFFF ∧ (bench []).rom.length < 0x10000000 - 0x10000000 + 4) ∧
    (translateAddr 0xFFFFFFFFBFBFFFFE#64 = .ok 0x1FBFFFFE ∧ (0xFFFFFFFFBFBFFFFE#64 : Word).toNat % 4 ≠ 0 ∧
      route resetParams.physMap 0x1FBFFFFE = some ⟨0x10000000, 0x1FBFFFFF, .rom⟩ ∧ 0x1FBFFFFF < 0x1FBFFFFE + 4 - 1) ∧
    (translateAddr 0xFFFFFFFFA46FFFFD#64 = .ok 0x046FFFFD ∧ (0xFFFFFFFFA46FFFFD#64 : Word).toNat % 4 ≠ 0 ∧
      route resetParams.physMap 0x046FFFFD = some ⟨0x04600000, 0x046FFFFF, .device .pi 0x34⟩ ∧
      0x046FFFFF < 0x046FFFFD + 4 - 1) ∧
    (translateAddr 0xFFFFFFFFB0000006#64 = .ok 0x10000006 ∧ (0xFFFFFFFFB0000006#64 : Word).toNat % 4 ≠ 0 ∧
      (List.replicate 8 0xFF#8).length < 0x10000006 - 0x10000000 + 4) ∧
    (0xFFFFFFFF80002001#64 : Word).toNat % 4 ≠ 0 ∧
    ((0x400000#64 : Word).toNat % 4 = 0 ∧ load 4 0x400000#64 (bench []) = .error (.unmappedVirtual 0x400000#64)) := by
  refine ⟨by decide, rfl, ⟨rfl, by decide⟩, ⟨rfl, rfl, by decide, by decide⟩, ⟨rfl, by decide, by decide, by decide⟩,
    ⟨rfl, by decide, by decide, by decide⟩, ⟨rfl, by decide, by decide, by decide⟩, ⟨rfl, by decide, by decide⟩,
    by decide, by decide, rfl⟩

/-- Four bytes of the PI block, misaligned. -/
theorem device_bytes : (0xFFFFFFFFA4600002#64 : Word).toNat % 4 ≠ 0 ∧ resetParams.misaligned = .bytewise ∧
    translateAddr 0xFFFFFFFFA4600002#64 = .ok 0x04600002 ∧ 0x046FFFFF < 2 ^ 29 ∧
    ∀ k, k < 4 → route resetParams.physMap (0x04600002 + k) = some ⟨0x04600000, 0x046FFFFF, .device .pi 0x34⟩ :=
  ⟨by decide, rfl, rfl, by decide, by decide⟩

/-- Memory; the ROM image to its last byte; the last register of the SP block and the first address past it; the
controller as oracle, and MI_INTR and MI_MASK by the register map. (What `Config.storesValue` answers is free: the
clause about it holds for either answer.) -/
theorem test_witness_BusReads :
    (∀ n ∈ [1, 2, 4, 8], MemoryAccess (data []) n 0xFFFFFFFF80000100#64 0x100) ∧
    MemoryAccess (data []) 8 0xFFFFFFFFA0000103#64 0x103 ∧
    (translateAddr 0xFFFFFFFFB0000004#64 = .ok 0x10000004 ∧
      route resetParams.physMap 0x10000004 = some ⟨0x10000000, 0x1FBFFFFF, .rom⟩ ∧
      0x10000004 + 4 - 1 ≤ 0x1FBFFFFF ∧ 0x10000004 - 0x10000000 + 4 ≤ (List.replicate 8 0xFF#8).length) ∧
    (translateAddr 0xFFFFFFFFA4040020#64 = .ok 0x04040020 ∧
      route resetParams.physMap 0x04040020 = some ⟨0x04040000, 0x0407FFFF, .device .sp 0x20⟩ ∧
      0x20 < 0x04040020 - 0x04040000 + 4 ∧ 0x0404001C - 0x04040000 + 4 ≤ 0x20) ∧
    (translateAddr 0xFFFFFFFFA4300008#64 = .ok (0x04300000 + 8) ∧
      translateAddr 0xFFFFFFFFA430000C#64 = .ok (0x04300000 + 12) ∧
      route resetParams.physMap 0x04300008 = some ⟨0x04300000, 0x043FFFFF, .device .mi 16⟩ ∧
      route resetParams.physMap 0x0430000C = some ⟨0x04300000, 0x043FFFFF, .device .mi 16⟩) ∧
    (DeviceId.sp ≠ .mi ∧ resetParams.miMap = .oracle ∧ (mapped (data [])).params.miMap = .registers) := by
  refine ⟨memory_at, memory_misaligned, ⟨rfl, by decide, by decide, by decide⟩, ⟨rfl, by decide, by decide, by decide⟩,
    ⟨rfl, rfl, by decide, by decide⟩, by decide, rfl, rfl⟩

theorem test_witness_BusWrites : (data []).mem.wf ∧ (∀ id, ((data []).blocks.get id).wf) ∧
    (∀ n ∈ [1, 2, 4, 8], MemoryAccess (data []) n (0xFFFFFFFF80800000#64 - BitVec.ofNat 64 n) (0x800000 - n)) ∧
    translateAddr 0xFFFFFFFFA4600030#64 = .ok 0x04600030 ∧
    route resetParams.physMap 0x04600030 = some ⟨0x04600000, 0x046FFFFF, .device .pi 0x34⟩ ∧
    (∀ k, k < 4 → route resetParams.physMap (0x04600030 + k) = some ⟨0x04600000, 0x046FFFFF, .device .pi 0x34⟩) ∧
    0x04600030 - 0x04600000 + 4 ≤ 0x34 ∧ 0x34 < 0x04600034 - 0x04600000 + 4 :=
  ⟨data_wf, data_blocks_wf, memory_end, rfl, by decide, by decide, by decide, by decide⟩

theorem test_witness_IntegerLoads :
    (∀ n ∈ [1, 2, 4, 8], MemoryAccess (data []) n ((data []).gpr 1#5 + (0#16 : Half).signExtend 64) 0x100) ∧
    load 4 ((data []).gpr 1#5 + (0#16 : Half).signExtend 64) (data []) =
      .ok ((data []).mem.readBE 0x100 4, data []) ∧
    load 4 ((data []).gpr 0#5 + (0#16 : Half).signExtend 64) (data []) = .error (.unmappedVirtual 0#64) :=
  ⟨memory_at, rfl, rfl⟩

theorem test_witness_IntegerStores : (data []).mem.wf ∧
    (∀ n ∈ [1, 2, 4, 8], MemoryAccess (data []) n ((data []).gpr 1#5 + (0#16 : Half).signExtend 64) 0x100) ∧
    (∃ u, store 4 ((data []).gpr 1#5 + (0#16 : Half).signExtend 64) 7#64 (data []) = .ok u) ∧
    store 4 ((data []).gpr 0#5 + (0#16 : Half).signExtend 64) 7#64 (data []) = .error (.unmappedVirtual 0#64) :=
  ⟨data_wf, memory_at, ⟨_, rfl⟩, rfl⟩

/-- The first and the last byte of an aligned unit: k = 0 and k = n - 1; the VI block and the addresses past it. -/
theorem test_witness_PartLoads :
    (∀ n ∈ [4, 8], ∀ k ∈ [0, n - 1], let va := (data []).gpr 1#5 + (BitVec.ofNat 16 k).signExtend 64
      va.toNat % n = k ∧ va - BitVec.ofNat 64 k = 0xFFFFFFFF80000100#64) ∧
    (∀ n ∈ [1, 2, 4, 8], MemoryAccess (data []) n 0xFFFFFFFF80000100#64 0x100) ∧
    load 8 0xFFFFFFFF80000100#64 (data []) = .ok ((data []).mem.readBE 0x100 8, data []) ∧
    (∀ n ∈ [4, 8], load n 0xFFFFFFFFA4400038#64 (data []) = .ok (0#64, data []) ∧
      ∃ v u, load n 0xFFFFFFFFA4400000#64 (data []) = .ok (v, u)) ∧
    load 8 0#64 (data []) = .error (.unmappedVirtual 0#64) := by
  refine ⟨by decide, memory_at, rfl, fun n hn => ?_, rfl⟩
  fin_cases hn <;> exact ⟨by decide, read_of_ok (load_device (pa := 0x04400000)
    (row := ⟨0x04400000, 0x044FFFFF, .device .vi 0x38⟩) (by decide) (by decide) (by decide) rfl)⟩

theorem test_witness_PartStores : (data []).mem.wf ∧
    (∀ n ∈ [4, 8], ∀ k ∈ [0, n - 1], let va := (data []).gpr 1#5 + (BitVec.ofNat 16 k).signExtend 64
      va.toNat % n = k ∧ va - BitVec.ofNat 64 k = 0xFFFFFFFF80000100#64) ∧
    (∀ n ∈ [1, 2, 4, 8], MemoryAccess (data []) n 0xFFFFFFFF80000100#64 0x100) ∧
    storeAccess 8 0xFFFFFFFF80000100#64 (data []) = .ok ⟨0x100, ⟨0, 0x7FFFFF, .memory⟩, true⟩ ∧
    storeAccess 8 0#64 (data []) = .error (.unmappedVirtual 0#64) :=
  ⟨data_wf, by decide, memory_at, rfl, rfl⟩

theorem test_witness_LoadLinkedStoreConditional : (data []).mem.wf ∧
    (∀ n ∈ [1, 2, 4, 8], MemoryAccess (data []) n ((data []).gpr 1#5 + (0#16 : Half).signExtend 64) 0x100) ∧
    (data []).llbit = false ∧ ({ data [] with llbit := true } : State).llbit = true ∧
    load 4 0#64 (data []) = .error (.unmappedVirtual 0#64) ∧
    storeAccess 4 0#64 (data []) = .error (.unmappedVirtual 0#64) := ⟨data_wf, memory_at, rfl, rfl, rfl, rfl⟩

theorem test_witness_Cop1LoadsAndStores : Cop1Usable (data []) ∧ Cop1Usable paired ∧ paired.mem.wf ∧
    (∀ n ∈ [1, 2, 4, 8], MemoryAccess (data []) n ((data []).gpr 1#5 + (0#16 : Half).signExtend 64) 0x100) ∧
    (∀ n ∈ [4, 8], MemoryAccess paired n (paired.gpr 1#5 + (0#16 : Half).signExtend 64) 0x100) ∧
    EvenWhenPaired (data []) [3#5] ∧ EvenWhenPaired paired [30#5] ∧ ¬ EvenWhenPaired paired [31#5] ∧
    load 8 (paired.gpr 0#5 + (0#16 : Half).signExtend 64) paired = .error (.unmappedVirtual 0#64) ∧
    storeAccess 8 (paired.gpr 0#5 + (0#16 : Half).signExtend 64) paired = .error (.unmappedVirtual 0#64) := by
  refine ⟨(by decide : (data []).status.getLsbD 29 = true), (by decide : paired.status.getLsbD 29 = true), data_wf,
    memory_at, memory_paired, .inl (by decide), .inr (by decide), ?_, rfl, rfl⟩
  rintro (h | h)
  · exact absurd h (by decide)
  · exact absurd (h 31#5 (by decide)) (by decide)

theorem test_witness_Cop0Reads : (9#5 : Reg) ≠ 1#5 ∧ 31 < ((bench []).setCop0 6#5 32#32 |>.cop0 6#5).toNat ∧
    ((bench []).setCop0 6#5 31#32 |>.cop0 6#5).toNat ≤ 31 := by decide

theorem test_witness_Cop0Writes : (8#5 : Reg) ∈ [1#5, 8#5, 15#5] ∧ (0#5 : Reg) ∉ [1#5, 8#5, 9#5, 11#5, 13#5, 15#5] ∧
    (31#5 : Reg) ∉ [1#5, 8#5, 9#5, 11#5, 13#5, 15#5] := by decide

theorem test_witness_Cop1Moves : Cop1Usable (bench []) ∧ Cop1Usable paired ∧ (30#5 : Reg) ≠ 31#5 ∧
    EvenWhenPaired (bench []) [31#5, 1#5] ∧ EvenWhenPaired paired [30#5, 0#5] ∧ ¬ EvenWhenPaired paired [1#5] := by
  refine ⟨(by decide : (bench []).status.getLsbD 29 = true), (by decide : paired.status.getLsbD 29 = true), by decide,
    .inl (by decide), .inr (by decide), ?_⟩
  rintro (h | h)
  · exact absurd h (by decide)
  · exact absurd (h 1#5 (by decide)) (by decide)

/-- The registers of FpArithmetic, FpToInteger, FormatConversions and Compares. -/
theorem test_witness_FpArithmetic : Cop1Usable (bench []) ∧ Cop1Usable paired ∧
    EvenWhenPaired (bench []) [1#5, 3#5, 5#5] ∧ EvenWhenPaired paired [30#5, 2#5, 0#5] :=
  ⟨(by decide : (bench []).status.getLsbD 29 = true), (by decide : paired.status.getLsbD 29 = true),
    .inl (by decide), .inr (by decide)⟩

/-- A NaN and a number for ABS and NEG. -/
theorem test_witness_FpArithmetic_operands : f32 0x7FC00000#32 = .nan ∧ f32 0x80000000#32 ≠ .nan ∧
    f64 0x7FF8000000000000#64 = .nan ∧ f64 0#64 ≠ .nan := by decide

theorem test_witness_FpToInteger : Cop1Usable paired ∧ EvenWhenPaired paired [2#5] ∧ EvenWhenPaired paired [4#5] ∧
    EvenWhenPaired paired [2#5, 4#5] :=
  ⟨(by decide : paired.status.getLsbD 29 = true), .inr (by decide), .inr (by decide), .inr (by decide)⟩

/-- The ends of the W range: 2^31 does not fit, -2^31 does, a NaN has no integer. -/
theorem test_witness_FpToInteger_range : toInt 32 .zero (f32 0x4F000000#32) = none ∧
    toInt 32 .zero (f32 0xCF000000#32) = some (-2 ^ 31) ∧ toInt 64 .zero (f64 0x7FF8000000000000#64) = none := by decide

theorem test_witness_FormatConversions : Cop1Usable (bench []) ∧ EvenWhenPaired (bench []) [1#5, 3#5] ∧
    EvenWhenPaired (bench []) [31#5] :=
  ⟨(by decide : (bench []).status.getLsbD 29 = true), .inl (by decide), .inl (by decide)⟩

/-- The largest finite magnitude, infinity, the first NaN, of both signs; a nonzero number. -/
theorem test_witness_FormatConversions_encodings :
    (∀ f ∈ [single, double], ∀ s ∈ [0, signUnit f], ∀ k ∈ [infEnc f - 1, infEnc f, infEnc f + 1],
      s + k < 2 * signUnit f ∧ (s + k) % signUnit f = k) ∧
    (∀ f ∈ [single, double], infEnc f - 1 < infEnc f ∧ infEnc f < infEnc f + 1) ∧ (1 : Nat) ≠ 0 := by decide

theorem test_witness_Compares : Cop1Usable (bench []) ∧ EvenWhenPaired (bench []) [1#5, 3#5] ∧
    ([(0x3F800000#32, 0x40000000#32), (0x3F800000#32, 0x3F800000#32), (0x40000000#32, 0x3F800000#32),
      (0x7FC00000#32, 0#32)].map fun p : Word32 × Word32 => fpCompare (f32 p.1) (f32 p.2)) = [.lt, .eq, .gt, .un] :=
  ⟨(by decide : (bench []).status.getLsbD 29 = true), .inl (by decide), by decide⟩

theorem test_witness_OddPairHalts : Cop1Usable paired ∧ paired.status.getLsbD 26 = false ∧
    (31#5 : Reg).getLsbD 0 = true ∧ ¬ (30#5 : Reg).getLsbD 0 = true :=
  ⟨(by decide : paired.status.getLsbD 29 = true), by decide, by decide, by decide⟩

theorem test_witness_RoundingIsCorrect : single ∈ [single, double] ∧ double ∈ [single, double] ∧ (1 : Nat) ≠ 0 := by
  decide

theorem test_witness_QuotientsRoundCorrectly : (1 : Nat) ≠ 0 ∧ 2 ^ 24 - 1 < 2 ^ (single.fracBits + 1) ∧
    2 ^ 53 - 1 < 2 ^ (double.fracBits + 1) := by decide

theorem test_witness_SquareRootsRoundCorrectly : (2 ^ 53 - 1 : Nat) ≠ 0 ∧ 2 ^ 53 - 1 < 2 ^ (double.fracBits + 1) ∧
    1 < 2 ^ (single.fracBits + 1) := by decide

theorem test_witness_SpecialValues : (1 : Nat) ≠ 0 ∧ FpVal.inf true ≠ .nan ∧ FpVal.fin false 0 0 ≠ .nan := by decide

end Sys2Proof.Tests
end

section
/-! Proofs about the general registers (10_state.md). -/

namespace Sys2Proof.Machine

/-- R41: register 0 cannot be written. -/
@[simp] theorem setGpr_zero (s : State) (v : Word) : s.setGpr 0#5 v = s := by
  simp [State.setGpr]

/-- Settles O21, from the rules for reads and writes of the general registers. -/
theorem zeroRegister : Obligations.ZeroRegister := by
  unfold Obligations.ZeroRegister
  exact fun s r q v => ⟨gpr_zero s, setGpr_zero s v, gpr_setGpr_same s r v, gpr_setGpr_other s r q v⟩

end Sys2Proof.Machine
end

section
/-! Proofs about address translation (20_memory.md). -/

namespace Sys2Proof.Machine

/-- R153: as a number, the low word of an address drops bits 63:32. -/
theorem low32_toNat (va : Word) : (low32 va).toNat = va.toNat % 2 ^ 32 := by
  simp [low32]

/-- R150, R151: the user segment is not mapped. -/
theorem translateAddr_user {va : Word} (h : va.toNat % 2 ^ 32 < 0x80000000) :
    translateAddr va = .error (.unmappedVirtual va) := by
  simp only [translateAddr, low32_toNat, if_pos h]

/-- R150: KSEG0 is the physical window from 0x80000000. -/
theorem translateAddr_kseg0 {va : Word} (lo : 0x80000000 ≤ va.toNat % 2 ^ 32)
    (hi : va.toNat % 2 ^ 32 < 0xA0000000) :
    translateAddr va = .ok (va.toNat % 2 ^ 32 - 0x80000000) := by
  simp only [translateAddr, low32_toNat, if_neg lo.not_gt, if_pos hi]

/-- R150: KSEG1 is the same physical window from 0xA0000000. -/
theorem translateAddr_kseg1 {va : Word} (lo : 0xA0000000 ≤ va.toNat % 2 ^ 32)
    (hi : va.toNat % 2 ^ 32 < 0xC0000000) :
    translateAddr va = .ok (va.toNat % 2 ^ 32 - 0xA0000000) := by
  have notUser : ¬ va.toNat % 2 ^ 32 < 0x80000000 := by omega
  simp only [translateAddr, low32_toNat, if_neg notUser, if_neg lo.not_gt, if_pos hi]

/-- R150: above KSEG1 nothing is mapped. -/
theorem translateAddr_above_kseg1 {va : Word} (lo : 0xC0000000 ≤ va.toNat % 2 ^ 32) :
    translateAddr va = .error (.unmappedVirtual va) := by
  have notUser : ¬ va.toNat % 2 ^ 32 < 0x80000000 := by omega
  have notKseg0 : ¬ va.toNat % 2 ^ 32 < 0xA0000000 := by omega
  simp only [translateAddr, low32_toNat, if_neg notUser, if_neg notKseg0, if_neg lo.not_gt]

/-- Settles O38, one segment at a time. -/
theorem translation : Obligations.Translation := by
  unfold Obligations.Translation
  exact fun _ => ⟨translateAddr_user, translateAddr_kseg0, translateAddr_kseg1, translateAddr_above_kseg1⟩

end Sys2Proof.Machine
end

section
/-! Proofs about the key bits of a word (30_encoding.md R203, R204): a table looks at one field of the word, so words
that agree in their key bits get the same row. -/

namespace Sys2Proof

/-- Two words that agree under a mask agree in every field that the mask covers. -/
theorem extractLsb'_congr_of_mask {w v m : Word32} {start len : Nat} (agree : w &&& m = v &&& m)
    (covered : m.extractLsb' start len = BitVec.allOnes len) :
    w.extractLsb' start len = v.extractLsb' start len := by
  have h := congrArg (BitVec.extractLsb' start len) agree
  rwa [BitVec.extractLsb'_and, BitVec.extractLsb'_and, covered, BitVec.and_allOnes, BitVec.and_allOnes] at h

/-- A field of a field is a field of the word. -/
theorem extractLsb'_of_extractLsb' {w : Word32} {base width start len : Nat} (fits : start + len ≤ width) :
    (w.extractLsb' base width).extractLsb' start len = w.extractLsb' (base + start) len := by
  apply BitVec.eq_of_getLsbD_eq
  intro i hi
  have inner : start + i < width := by omega
  simp only [BitVec.getLsbD_extractLsb', hi, inner, decide_true, Bool.true_and, Nat.add_assoc]

/-! ## The row that a table gives -/

/-- What the decoder answers, without the operands: the row's mnemonic, or the empty entry. -/
def rowOf (r : Except Miss Instr) : Except Miss String := r.map Instr.mnemonic

theorem rowOf_ok {r : Except Miss Instr} {name : String} (h : rowOf r = .ok name) :
    ∃ j, r = .ok j ∧ j.mnemonic = name := by
  cases r with
  | error m => cases h
  | ok j => exact ⟨j, rfl, Except.ok.inj h⟩

section tables
variable {w v : Word32}

theorem rowOf_decodeSpecial_congr (h : Field.funct w = Field.funct v) :
    rowOf (decodeSpecial w) = rowOf (decodeSpecial v) := by
  simp only [decodeSpecial, h]
  split <;> rfl

theorem rowOf_decodeRegimm_congr (h : Field.rt w = Field.rt v) : rowOf (decodeRegimm w) = rowOf (decodeRegimm v) := by
  simp only [decodeRegimm, h]
  split <;> rfl

theorem decodeTlb_congr (h : Field.funct w = Field.funct v) : decodeTlb w = decodeTlb v := by
  simp only [decodeTlb, h]

theorem rowOf_decodeFpuBranch_congr (h : Field.rt w = Field.rt v) :
    rowOf (decodeFpuBranch w) = rowOf (decodeFpuBranch v) := by
  simp only [decodeFpuBranch, h]
  split <;> rfl

theorem rowOf_decodeFpuS_congr (h : Field.funct w = Field.funct v) : rowOf (decodeFpuS w) = rowOf (decodeFpuS v) := by
  simp only [decodeFpuS, h]
  split <;> rfl

theorem rowOf_decodeFpuD_congr (h : Field.funct w = Field.funct v) : rowOf (decodeFpuD w) = rowOf (decodeFpuD v) := by
  simp only [decodeFpuD, h]
  split <;> rfl

theorem rowOf_decodeFpuW_congr (h : Field.funct w = Field.funct v) : rowOf (decodeFpuW w) = rowOf (decodeFpuW v) := by
  simp only [decodeFpuW, h]
  split <;> rfl

theorem rowOf_decodeFpuL_congr (h : Field.funct w = Field.funct v) : rowOf (decodeFpuL w) = rowOf (decodeFpuL v) := by
  simp only [decodeFpuL, h]
  split <;> rfl

end tables

/-! ## The key bits of a word -/

/-- The bits that the COP0 decode looks at (R209). -/
def cop0KeyMask (rs : BitVec 5) : Word32 :=
  match rs with
  | 0x10#5 => 0xFFE0003F#32
  | _ => 0xFFE00000#32

/-- The bits that the COP1 decode looks at (R210 to R212). -/
def cop1KeyMask (rs : BitVec 5) : Word32 :=
  match rs with
  | 0x08#5 => 0xFFFF0000#32
  | 0x10#5 | 0x11#5 | 0x14#5 | 0x15#5 => 0xFFE0003F#32
  | _ => 0xFFE00000#32

/-- The bits of a word that the tables look at (R206 to R212). -/
def keyMask (v : Word32) : Word32 :=
  match Field.op v with
  | 0x00#6 => 0xFC00003F#32
  | 0x01#6 => 0xFC1F0000#32
  | 0x10#6 => cop0KeyMask (Field.rs v)
  | 0x11#6 => cop1KeyMask (Field.rs v)
  | _ => 0xFC000000#32

/-- `keyMask` is the `mask` of the opcode table, except for the two rows that are whole words. -/
theorem mask32_eq_keyMask {i : Instr} (notNop : i ≠ .nop) (notEret : i ≠ .eret) : i.mask32 = keyMask i.match32 := by
  cases i
  case nop => contradiction
  case eret => contradiction
  all_goals simp only [Instr.mask32, Instr.match32]; decide

/-- The word that holds a row's key bits and no others is in that row. -/
theorem rowOf_match32 {i : Instr} (notNop : i ≠ .nop) (notEret : i ≠ .eret) :
    rowOf (decodePrimary i.match32) = .ok i.mnemonic := by
  cases i
  case nop => contradiction
  case eret => contradiction
  all_goals simp only [Instr.match32, Instr.mnemonic]; decide

section agreement
variable {w v : Word32}

theorem rowOf_decodeCop0_congr (agree : w &&& cop0KeyMask (Field.rs v) = v &&& cop0KeyMask (Field.rs v)) :
    rowOf (decodeCop0 w) = rowOf (decodeCop0 v) := by
  have rs : Field.rs w = Field.rs v := by
    unfold cop0KeyMask at agree
    split at agree <;> exact extractLsb'_congr_of_mask agree rfl
  simp only [decodeCop0, rs]
  split
  case h_5 tlb =>
    simp only [tlb, cop0KeyMask] at agree
    rw [decodeTlb_congr (extractLsb'_congr_of_mask agree rfl)]
  all_goals rfl

theorem rowOf_decodeCop1_congr (agree : w &&& cop1KeyMask (Field.rs v) = v &&& cop1KeyMask (Field.rs v)) :
    rowOf (decodeCop1 w) = rowOf (decodeCop1 v) := by
  have rs : Field.rs w = Field.rs v := by
    unfold cop1KeyMask at agree
    split at agree <;> exact extractLsb'_congr_of_mask agree rfl
  simp only [decodeCop1, rs]
  split
  case h_7 branch =>
    simp only [branch, cop1KeyMask] at agree
    exact rowOf_decodeFpuBranch_congr (extractLsb'_congr_of_mask agree rfl)
  case h_8 fmt | h_9 fmt | h_10 fmt | h_11 fmt =>
    simp only [fmt, cop1KeyMask] at agree
    have funct : Field.funct w = Field.funct v := extractLsb'_congr_of_mask agree rfl
    simp only [rowOf_decodeFpuS_congr funct, rowOf_decodeFpuD_congr funct, rowOf_decodeFpuW_congr funct,
      rowOf_decodeFpuL_congr funct]
  all_goals rfl

/-- R204: words that agree in the bits that the tables look at get the same row, whatever their other bits hold. -/
theorem rowOf_decodePrimary_congr (agree : w &&& keyMask v = v &&& keyMask v) :
    rowOf (decodePrimary w) = rowOf (decodePrimary v) := by
  have op : Field.op w = Field.op v := by
    unfold keyMask cop0KeyMask cop1KeyMask at agree
    repeat' split at agree
    all_goals exact extractLsb'_congr_of_mask agree rfl
  simp only [decodePrimary, op]
  split
  case h_1 special =>
    simp only [keyMask, special] at agree
    exact rowOf_decodeSpecial_congr (extractLsb'_congr_of_mask agree rfl)
  case h_2 regimm =>
    simp only [keyMask, regimm] at agree
    exact rowOf_decodeRegimm_congr (extractLsb'_congr_of_mask agree rfl)
  case h_17 cop0 =>
    simp only [keyMask, cop0] at agree
    exact rowOf_decodeCop0_congr agree
  case h_18 cop1 =>
    simp only [keyMask, cop1] at agree
    exact rowOf_decodeCop1_congr agree
  all_goals rfl

end agreement

theorem rowOf_decodePrimary_of_keyBits {w : Word32} {i : Instr} (notNop : i ≠ .nop) (notEret : i ≠ .eret)
    (key : w &&& i.mask32 = i.match32) : rowOf (decodePrimary w) = .ok i.mnemonic := by
  have agree : w &&& i.mask32 = i.match32 &&& i.mask32 := by rw [← key, BitVec.and_assoc, BitVec.and_self]
  rw [mask32_eq_keyMask notNop notEret] at agree
  exact (rowOf_decodePrimary_congr agree).trans (rowOf_match32 notNop notEret)

/-! ## The decoder, with its two whole words -/

theorem decode_nop : decode 0x00000000#32 = .ok .nop := by decide

theorem decode_eret : decode 0x42000018#32 = .ok .eret := by decide

theorem decode_of_ne {w : Word32} (notNop : w ≠ 0x00000000#32) (notEret : w ≠ 0x42000018#32) :
    decode w = decodePrimary w := by
  rw [decode, if_neg notNop, if_neg notEret]

theorem decode_of_keyBits {w : Word32} {i : Instr} (nonzero : w ≠ 0#32) (key : w &&& i.mask32 = i.match32) :
    ∃ j, decode w = .ok j ∧ j.mnemonic = i.mnemonic := by
  by_cases nop : i = .nop
  · subst nop
    exact absurd ((BitVec.and_allOnes (x := w)).symm.trans key) nonzero
  by_cases eret : i = .eret
  · subst eret
    obtain rfl : w = 0x42000018#32 := (BitVec.and_allOnes (x := w)).symm.trans key
    exact ⟨.eret, decode_eret, rfl⟩
  have row := rowOf_decodePrimary_of_keyBits nop eret key
  have other : w ≠ 0x42000018#32 := by
    rintro rfl
    have empty : rowOf (decodePrimary 0x42000018#32) = .error (.tlb 0x18#6) := by decide
    cases empty.symm.trans row
  rw [decode_of_ne nonzero other]
  exact rowOf_ok row

/-- R204, R209: the selector and the function of ERET in any other word select an empty entry of the TLB table. -/
theorem decode_of_eret_keys {w : Word32} (other : w ≠ 0x42000018#32) (selector : w.extractLsb' 21 11 = 0x210#11)
    (funct : Field.funct w = 0x18#6) : decode w = .error (.tlb 0x18#6) := by
  have nonzero : w ≠ 0#32 := by
    rintro rfl
    exact absurd funct (by decide)
  have op : Field.op w = 0x10#6 :=
    (extractLsb'_of_extractLsb' (by decide)).symm.trans (congrArg (BitVec.extractLsb' 5 6) selector)
  have rs : Field.rs w = 0x10#5 :=
    (extractLsb'_of_extractLsb' (by decide)).symm.trans (congrArg (BitVec.extractLsb' 0 5) selector)
  rw [decode_of_ne nonzero other]
  simp only [decodePrimary, op, decodeCop0, rs, decodeTlb, funct]
  rfl

/-- Settles O4: the tables look at no bits but the row's key bits, and the two whole words are decided before them. -/
theorem keyBitsDecideTheInstruction : Obligations.KeyBitsDecideTheInstruction := by
  unfold Obligations.KeyBitsDecideTheInstruction
  exact ⟨fun _ _ => decode_of_keyBits, decode_nop, decode_eret, fun _ => decode_of_eret_keys⟩

end Sys2Proof
end

section
/-! Proofs about the instruction cycle (40_cycle.md). -/

namespace Sys2Proof.Machine

/-- R275: the delay-slot check stands outermost in every control transfer, before the COP1 check of BC1. -/
theorem exec_eq_controlTransfer {i : Instr} (transfers : isControlTransfer i = true) (s : State) :
    ∃ r, exec i s = controlTransfer s r := by
  cases i
  case j | jal | jr | jalr | eret => exact ⟨_, rfl⟩
  case beq | bne | blez | bgtz | bltz | bgez | bltzal | bgezal => exact ⟨_, rfl⟩
  case beql | bnel | blezl | bgtzl | bltzl | bgezl | bltzall | bgezall => exact ⟨_, rfl⟩
  case bc1f | bc1t | bc1fl | bc1tl => exact ⟨_, rfl⟩
  all_goals cases transfers

/-- Settles O16: every control transfer begins with the delay-slot check, which halts while a branch is pending. -/
theorem controlTransferInDelaySlotHalts : Obligations.ControlTransferInDelaySlotHalts := by
  unfold Obligations.ControlTransferInDelaySlotHalts
  intro i s transfers pending
  obtain ⟨r, checked⟩ := exec_eq_controlTransfer transfers s
  exact checked.trans (controlTransfer_delay pending r)

end Sys2Proof.Machine
end

section
/-! Facts about words and the integers they stand for, as the integer instructions use them (41_integer.md R300). -/

namespace Sys2Proof.Machine

/-- A field of an integer's two's complement form is the integer, shifted down and taken modulo the field. -/
theorem extractLsb'_ofInt {w start len : Nat} (fits : start + len ≤ w) (i : Int) :
    (BitVec.ofInt w i).extractLsb' start len = BitVec.ofInt len (i / 2 ^ start) := by
  have parts : i = i % 2 ^ w + 2 ^ start * (2 ^ (w - start) * (i / 2 ^ w)) := by
    rw [← mul_assoc, ← pow_add, Nat.add_sub_cancel' (by omega), Int.emod_add_mul_ediv]
  have shifted : i / 2 ^ start = i % 2 ^ w / 2 ^ start + 2 ^ (w - start) * (i / 2 ^ w) := by
    conv_lhs => rw [parts]
    exact Int.add_mul_ediv_left _ _ (by positivity)
  obtain ⟨q, wraps⟩ : (2 ^ len : Int) ∣ 2 ^ (w - start) * (i / 2 ^ w) := (pow_dvd_pow 2 (by omega)).mul_right _
  have nonneg : 0 ≤ i % 2 ^ w := Int.emod_nonneg _ (by positivity)
  apply BitVec.eq_of_toNat_eq
  zify
  simp only [BitVec.extractLsb'_toNat, BitVec.toNat_ofInt, Nat.shiftRight_eq_div_pow]
  push_cast
  rw [Int.toNat_of_nonneg nonneg, Int.toNat_of_nonneg (Int.emod_nonneg _ (by positivity)), shifted, wraps,
    Int.add_mul_emod_self_left]

/-- The low half of an integer modulo 2^64 is the integer modulo 2^32. -/
theorem low32_ofInt (i : Int) : low32 (BitVec.ofInt 64 i) = BitVec.ofInt 32 i := by
  rw [low32, BitVec.setWidth_eq_extractLsb' (by decide), extractLsb'_ofInt (by decide), pow_zero, Int.ediv_one]

/-- The low half of a register is its value modulo 2^32. -/
theorem low32_eq_ofInt (v : Word) : low32 v = BitVec.ofInt 32 (v.toNat % 2 ^ 32 : Int) := by
  apply BitVec.eq_of_toNat_eq
  rw [low32_toNat, BitVec.toNat_ofInt]
  omega

/-- The low half of a sign-extended immediate is the immediate, sign-extended to 32 bits. -/
theorem low32_immS (imm : Half) : low32 (immS imm) = BitVec.ofInt 32 imm.toInt := low32_ofInt imm.toInt

theorem ofInt_sub {w : Nat} (i j : Int) : BitVec.ofInt w (i - j) = BitVec.ofInt w i - BitVec.ofInt w j := by
  rw [Int.sub_eq_add_neg, BitVec.ofInt_add, BitVec.ofInt_neg, BitVec.sub_eq_add_neg]

/-- A left shift is the product by a power of two, modulo the width. -/
theorem shiftLeft_eq_ofNat {w : Nat} (x : BitVec w) (n : Nat) : x <<< n = BitVec.ofNat w (x.toNat * 2 ^ n) := by
  apply BitVec.eq_of_toNat_eq
  rw [BitVec.toNat_shiftLeft, BitVec.toNat_ofNat, Nat.shiftLeft_eq]

/-- A logical right shift is the quotient of the unsigned value by a power of two. -/
theorem ushiftRight_eq_ofNat {w : Nat} (x : BitVec w) (n : Nat) : x >>> n = BitVec.ofNat w (x.toNat / 2 ^ n) := by
  rw [← Nat.shiftRight_eq_div_pow, ← BitVec.toNat_ushiftRight, BitVec.ofNat_toNat, BitVec.setWidth_eq]

/-- An arithmetic right shift is the floored quotient of the signed value by a power of two. -/
theorem sshiftRight_eq_ofInt {w : Nat} (x : BitVec w) (n : Nat) :
    x.sshiftRight n = BitVec.ofInt w (x.toInt / 2 ^ n) := by
  rw [BitVec.sshiftRight, Int.shiftRight_eq_div_pow]
  norm_cast

end Sys2Proof.Machine
end

section
/-! Proofs about integer add, subtract, logical operations and set on less than (41_integer.md R301 to R324), and about
the instructions without an effect. -/

namespace Sys2Proof.Machine

/-- A register write, its value in any form equal to the one written. -/
theorem writesGpr_of_eq {s : State} {r : Reg} {v w : Word} (value : v = w) :
    WritesGpr (.next (s.setGpr r v)) s r w := value ▸ writesGpr_next s r v

/-- Settles O28: low halves, immediates and whole registers are integers, and the operations are those of integers. -/
theorem addAndSubtract : Obligations.AddAndSubtract := by
  unfold Obligations.AddAndSubtract
  intro s rs rt rd imm x y w lx ly
  have addLow : sext32 (low32 x + low32 y) = w (lx + ly) := by
    rw [low32_eq_ofInt x, low32_eq_ofInt y, ← BitVec.ofInt_add, sext32]
  have subLow : sext32 (low32 x - low32 y) = w (lx - ly) := by
    rw [low32_eq_ofInt x, low32_eq_ofInt y, ← ofInt_sub, sext32]
  have addLowImm : sext32 (low32 x + low32 (immS imm)) = w (lx + imm.toInt) := by
    rw [low32_eq_ofInt x, low32_immS, ← BitVec.ofInt_add, sext32]
  have add : x + y = BitVec.ofInt 64 (x.toInt + y.toInt) := by
    rw [BitVec.ofInt_add, BitVec.ofInt_toInt, BitVec.ofInt_toInt]
  have sub : x - y = BitVec.ofInt 64 (x.toInt - y.toInt) := by
    rw [ofInt_sub, BitVec.ofInt_toInt, BitVec.ofInt_toInt]
  have addImm : x + immS imm = BitVec.ofInt 64 (x.toInt + imm.toInt) := by
    rw [BitVec.ofInt_add, BitVec.ofInt_toInt, immS, BitVec.signExtend]
  exact ⟨writesGpr_of_eq addLow, writesGpr_of_eq addLow, writesGpr_of_eq subLow, writesGpr_of_eq subLow,
    writesGpr_of_eq addLowImm, writesGpr_of_eq addLowImm, writesGpr_of_eq add, writesGpr_of_eq add,
    writesGpr_of_eq sub, writesGpr_of_eq sub, writesGpr_of_eq addImm, writesGpr_of_eq addImm⟩

/-- A register write, bit by bit; a write to register 0 leaves it 0. -/
theorem completes_setGpr_bits {s : State} {r : Reg} {v : Word} {f : Nat → Bool}
    (bits : ∀ k, k < 64 → v.getLsbD k = f k) :
    Completes (.next (s.setGpr r v)) { gprs := [r] } s fun t =>
      ∀ k, k < 64 → (t.gpr r).getLsbD k = (decide (r ≠ 0#5) && f k) := by
  obtain ⟨t, next, frame, value⟩ := writesGpr_next s r v
  refine ⟨t, next, frame, fun k hk => ?_⟩
  by_cases zero : r = 0#5
  · simp [zero]
  · simp [value, zero, bits k hk]

/-- LUI's value: sixteen zero bits below the immediate are the product by 2^16. -/
theorem immUpper_eq_ofInt (imm : Half) : immUpper imm = BitVec.ofInt 64 (imm.toInt * 2 ^ 16) := by
  rw [immUpper, sext32, BitVec.signExtend, BitVec.toInt_append_zero, mul_comm]

/-- Settles O29: the logical operations by the bits of a word operation, LUI by its product, and the set instructions
by the comparison of the numbers that the registers and the immediate stand for. -/
theorem logicalAndSet : Obligations.LogicalAndSet := by
  unfold Obligations.LogicalAndSet
  intro s rs rt rd imm x y z b
  have nor (k : Nat) (hk : k < 64) : (~~~(x ||| y)).getLsbD k = !(x.getLsbD k || y.getLsbD k) := by
    rw [BitVec.getLsbD_not, BitVec.getLsbD_or, decide_eq_true hk, Bool.true_and]
  have slti : boolWord (x.slt (immS imm)) = b (decide (x.toInt < imm.toInt)) := by
    rw [BitVec.slt_eq_decide, toInt_immS, boolWord]
  refine ⟨?_, writesGpr_of_eq (immUpper_eq_ofInt imm), writesGpr_next .., writesGpr_next .., writesGpr_of_eq slti,
    writesGpr_next ..⟩
  simp only [List.forall_mem_cons]
  exact ⟨completes_setGpr_bits fun _ _ => BitVec.getLsbD_and, completes_setGpr_bits fun _ _ => BitVec.getLsbD_or,
    completes_setGpr_bits fun _ _ => BitVec.getLsbD_xor, completes_setGpr_bits nor,
    completes_setGpr_bits fun _ _ => BitVec.getLsbD_and, completes_setGpr_bits fun _ _ => BitVec.getLsbD_or,
    completes_setGpr_bits fun _ _ => BitVec.getLsbD_xor, List.forall_mem_nil _⟩

/-- Settles O34: the meaning of each of them is the state it is given. -/
theorem noEffectInstructions : Obligations.NoEffectInstructions := by
  unfold Obligations.NoEffectInstructions
  intro s stype base op offset i hi
  simp only [List.mem_cons, List.not_mem_nil, or_false] at hi
  obtain rfl | rfl | rfl | rfl | rfl | rfl | rfl := hi <;> rfl

end Sys2Proof.Machine
end

section
/-! Proofs about shifts (41_integer.md R325 to R339). -/

namespace Sys2Proof.Machine

theorem amount5_eq_mod (v : Word) : amount5 v = v.toNat % 32 := by
  rw [amount5, BitVec.extractLsb'_toNat, Nat.shiftRight_zero]

theorem amount6_eq_mod (v : Word) : amount6 v = v.toNat % 64 := by
  rw [amount6, BitVec.extractLsb'_toNat, Nat.shiftRight_zero]

/-- Settles O30: each kind of shift by its arithmetic meaning, and the variable amounts as remainders. -/
theorem shifts : Obligations.Shifts := by
  unfold Obligations.Shifts
  intro s rs rt rd sa y ly w n5 n6 n
  have left (k : Nat) : sext32 (low32 y <<< k) = w (BitVec.ofNat 32 (ly.toNat * 2 ^ k)) :=
    congrArg sext32 (shiftLeft_eq_ofNat ly k)
  have right (k : Nat) : sext32 (low32 y >>> k) = w (BitVec.ofNat 32 (ly.toNat / 2 ^ k)) :=
    congrArg sext32 (ushiftRight_eq_ofNat ly k)
  have arith (k : Nat) : sext32 ((low32 y).sshiftRight k) = w (BitVec.ofInt 32 (ly.toInt / 2 ^ k)) :=
    congrArg sext32 (sshiftRight_eq_ofInt ly k)
  have amount5 : amount5 (s.gpr rs) = n5 := amount5_eq_mod _
  have amount6 : amount6 (s.gpr rs) = n6 := amount6_eq_mod _
  rw [← amount5, ← amount6]
  exact ⟨writesGpr_of_eq (left _), writesGpr_of_eq (right _), writesGpr_of_eq (arith _),
    writesGpr_of_eq (left _), writesGpr_of_eq (right _), writesGpr_of_eq (arith _),
    writesGpr_of_eq (shiftLeft_eq_ofNat y _), writesGpr_of_eq (ushiftRight_eq_ofNat y _),
    writesGpr_of_eq (sshiftRight_eq_ofInt y _),
    writesGpr_of_eq (shiftLeft_eq_ofNat y _), writesGpr_of_eq (ushiftRight_eq_ofNat y _),
    writesGpr_of_eq (sshiftRight_eq_ofInt y _),
    writesGpr_of_eq (shiftLeft_eq_ofNat y _), writesGpr_of_eq (ushiftRight_eq_ofNat y _),
    writesGpr_of_eq (sshiftRight_eq_ofInt y _)⟩

end Sys2Proof.Machine
end

section
/-! Proofs about the HI and LO moves and multiply (41_integer.md R340, R341, R344, R345, R348 to R351). -/

namespace Sys2Proof.Machine

/-! ### HI and LO -/

/-- R47: what a write to HI or LO stores, as a number. -/
def keptBits (w : HiLoWidth) (v : Word) : Word :=
  match w with
  | .w32 => BitVec.ofNat 64 (v.toNat % 2 ^ 32)
  | .w64 => v

theorem trunc_eq_keptBits (w : HiLoWidth) (v : Word) : HiLo.trunc w v = keptBits w v := by
  cases w
  · apply BitVec.eq_of_toNat_eq
    rw [HiLo.trunc, keptBits, BitVec.toNat_setWidth, low32_toNat, BitVec.toNat_ofNat]
  · rfl

/-- The instruction completes and writes `hi` and `lo`, truncated to HILO_W bits, and nothing else. -/
def WritesHiLo (o : Result) (s : State) (hi lo : Word) : Prop :=
  Completes o { hi := true, lo := true } s fun t =>
    t.hi = keptBits s.params.hiloWidth hi ∧ t.lo = keptBits s.params.hiloWidth lo

theorem writesHiLo_next (s : State) (hi lo : Word) : WritesHiLo (.next (s.setHiLo hi lo)) s hi lo :=
  completes_next (frame_setHiLo s hi lo rfl rfl) ⟨trunc_eq_keptBits _ hi, trunc_eq_keptBits _ lo⟩

/-- Settles O33: a read extends by R47, and a write keeps the low HILO_W bits. -/
theorem hiLoMoves : Obligations.HiLoMoves := by
  unfold Obligations.HiLoMoves
  exact fun s rs rd => ⟨writesGpr_next s rd s.readHi, writesGpr_next s rd s.readLo,
    completes_next (frame_setHi s _ rfl) (trunc_eq_keptBits _ _),
    completes_next (frame_setLo s _ rfl) (trunc_eq_keptBits _ _)⟩

/-! ### Multiply -/

/-- R340, R341: the halves of a 64-bit product, sign-extended. -/
theorem writesHiLo_productWord (s : State) (p : Int) :
    WritesHiLo (.next (s.setHiLo (sext32 ((BitVec.ofInt 64 p).extractLsb' 32 32)) (sext32 (low32 (BitVec.ofInt 64 p)))))
      s (sext32 (BitVec.ofInt 32 (p / 2 ^ 32))) (sext32 (BitVec.ofInt 32 p)) := by
  rw [extractLsb'_ofInt (by decide), low32_ofInt]
  exact writesHiLo_next ..

/-- R344, R345: the halves of a 128-bit product. -/
theorem writesHiLo_productDouble (s : State) (p : Int) :
    WritesHiLo (.next (s.setHiLo ((BitVec.ofInt 128 p).extractLsb' 64 64) ((BitVec.ofInt 128 p).extractLsb' 0 64)))
      s (BitVec.ofInt 64 (p / 2 ^ 64)) (BitVec.ofInt 64 p) := by
  rw [extractLsb'_ofInt (by decide), extractLsb'_ofInt (by decide), pow_zero, Int.ediv_one]
  exact writesHiLo_next ..

/-- Settles O31: an unsigned product is an integer too, so each width has one rule for both signs. -/
theorem multiply : Obligations.Multiply := by
  unfold Obligations.Multiply
  intro s rs rt x y lx ly keep
  simp only [List.forall_mem_cons]
  exact ⟨writesHiLo_productWord s _, writesHiLo_productWord s (lx.toNat * ly.toNat : Nat),
    writesHiLo_productDouble s _, writesHiLo_productDouble s (x.toNat * y.toNat : Nat), List.forall_mem_nil _⟩

end Sys2Proof.Machine
end

section
/-! Proofs about divide (41_integer.md R342, R343, R346, R347): what quotient and remainder are, then what each
instruction does with them. -/

namespace Sys2Proof.Machine

/-! ### Quotient and remainder -/

/-- The four clauses that determine quotient and remainder of a division that truncates. -/
theorem tdiv_tmod_spec (a : Int) {b : Int} (nonzero : b ≠ 0) : a = b * a.tdiv b + a.tmod b ∧
    (a.tmod b).natAbs < b.natAbs ∧ (0 ≤ a → 0 ≤ a.tmod b) ∧ (a ≤ 0 → a.tmod b ≤ 0) := by
  refine ⟨(Int.mul_tdiv_add_tmod a b).symm, ?_, Int.tmod_nonneg b, fun nonpos => ?_⟩
  · rw [Int.natAbs_tmod]
    exact Nat.mod_lt _ (Int.natAbs_pos.2 nonzero)
  · have nonneg := Int.tmod_nonneg b (Int.neg_nonneg_of_nonpos nonpos)
    rw [Int.neg_tmod] at nonneg
    exact Int.neg_nonneg.1 nonneg

/-- The quotient of two integers stays in the dividend's range, but for the most negative one by -1. -/
theorem tdiv_range {a b n : Int} (lower : -n ≤ a) (upper : a < n) (ordinary : ¬ (a = -n ∧ b = -1)) :
    -n ≤ a.tdiv b ∧ a.tdiv b < n := by
  obtain rfl | rfl | rfl | large : b = -1 ∨ b = 0 ∨ b = 1 ∨ 2 ≤ b.natAbs := by omega
  · rw [Int.tdiv_neg, Int.tdiv_one]; omega
  · rw [Int.tdiv_zero]; omega
  · rw [Int.tdiv_one]; omega
  · have half : (a.tdiv b).natAbs ≤ a.natAbs / 2 := by
      rw [Int.natAbs_tdiv]
      exact Nat.div_le_div_left large (by decide)
    omega

theorem divWord_zero {a b : Word32} (zero : b = 0#32) :
    divWord a b = some (if a.toInt < 0 then 1#64 else BitVec.allOnes 64, sext32 a) := by
  simp only [divWord, if_pos zero, ← Int.not_le, ite_not]

theorem divDouble_zero {a b : Word} (zero : b = 0#64) :
    divDouble a b = some (if a.toInt < 0 then 1#64 else BitVec.allOnes 64, a) := by
  simp only [divDouble, if_pos zero, ← Int.not_le, ite_not]

theorem overflowWord_iff (a b : Word32) :
    (a = 0x80000000#32 ∧ b = 0xFFFFFFFF#32) ↔ (a.toInt = -2 ^ 31 ∧ b.toInt = -1) :=
  and_congr BitVec.toInt_inj.symm BitVec.toInt_inj.symm

theorem overflowDouble_iff (a b : Word) :
    (a = 0x8000000000000000#64 ∧ b = 0xFFFFFFFFFFFFFFFF#64) ↔ (a.toInt = -2 ^ 63 ∧ b.toInt = -1) :=
  and_congr BitVec.toInt_inj.symm BitVec.toInt_inj.symm

theorem divWord_overflow {a b : Word32} (dividend : a.toInt = -2 ^ 31) (divisor : b.toInt = -1) :
    divWord a b = none := by
  obtain ⟨rfl, rfl⟩ := (overflowWord_iff a b).2 ⟨dividend, divisor⟩
  decide

theorem divDouble_overflow {a b : Word} (dividend : a.toInt = -2 ^ 63) (divisor : b.toInt = -1) :
    divDouble a b = none := by
  obtain ⟨rfl, rfl⟩ := (overflowDouble_iff a b).2 ⟨dividend, divisor⟩
  decide

/-- R342: quotient and remainder fit in 32 bits, so their sign extension is the number itself. -/
theorem divWord_ordinary {a b : Word32} (nonzero : b ≠ 0#32) (ordinary : ¬ (a.toInt = -2 ^ 31 ∧ b.toInt = -1)) :
    divWord a b = some (BitVec.ofInt 64 (a.toInt.tdiv b.toInt), BitVec.ofInt 64 (a.toInt.tmod b.toInt)) := by
  obtain ⟨quotientLower, quotientUpper⟩ := tdiv_range a.le_toInt a.toInt_lt ordinary
  obtain ⟨-, small, -, -⟩ := tdiv_tmod_spec a.toInt (BitVec.toInt_ne.2 nonzero)
  have divisorLower := b.le_toInt
  have divisorUpper := b.toInt_lt
  rw [divWord, if_neg nonzero, if_neg ((overflowWord_iff a b).not.2 ordinary),
    sext32_ofInt _ quotientLower quotientUpper, sext32_ofInt _ (by omega) (by omega)]

theorem divDouble_ordinary {a b : Word} (nonzero : b ≠ 0#64) (ordinary : ¬ (a.toInt = -2 ^ 63 ∧ b.toInt = -1)) :
    divDouble a b = some (BitVec.ofInt 64 (a.toInt.tdiv b.toInt), BitVec.ofInt 64 (a.toInt.tmod b.toInt)) := by
  rw [divDouble, if_neg nonzero, if_neg ((overflowDouble_iff a b).not.2 ordinary)]

theorem divuWord_zero {a b : Word32} (zero : b = 0#32) : divuWord a b = (BitVec.allOnes 64, sext32 a) := by
  rw [divuWord, if_pos zero, show sext32 0xFFFFFFFF#32 = BitVec.allOnes 64 by decide]

theorem divuWord_nonzero {a b : Word32} (nonzero : b ≠ 0#32) : divuWord a b =
    (sext32 (BitVec.ofNat 32 (a.toNat / b.toNat)), sext32 (BitVec.ofNat 32 (a.toNat % b.toNat))) := if_neg nonzero

theorem divuDouble_zero {a b : Word} (zero : b = 0#64) : divuDouble a b = (BitVec.allOnes 64, a) := if_pos zero

theorem divuDouble_nonzero {a b : Word} (nonzero : b ≠ 0#64) : divuDouble a b =
    (BitVec.ofNat 64 (a.toNat / b.toNat), BitVec.ofNat 64 (a.toNat % b.toNat)) := if_neg nonzero

/-- R342, R346: what the overflow ends in, under each value of DIV_OVERFLOW. -/
theorem divOverflow_cases {o : Result} {lo : Word} {s : State} (overflow : o = divOverflowResult lo s) :
    (s.params.divOverflow = .halt → o = .fault (.divOverflow (s.pc - 4#64))) ∧
    (s.params.divOverflow = .mips → WritesHiLo o s 0#64 lo) := by
  rw [overflow, divOverflowResult]
  constructor <;> intro choice <;> rw [choice]
  · rfl
  · exact writesHiLo_next s 0#64 lo

/-! ### The instructions -/

section instructions
variable {s : State} {rs rt : Reg} {lo hi : Word}

theorem writesHiLo_div (result : divWord (low32 (s.gpr rs)) (low32 (s.gpr rt)) = some (lo, hi)) :
    WritesHiLo (exec (.div rs rt) s) s hi lo := by
  rw [exec, execDiv, result]
  exact writesHiLo_next s hi lo

theorem writesHiLo_ddiv (result : divDouble (s.gpr rs) (s.gpr rt) = some (lo, hi)) :
    WritesHiLo (exec (.ddiv rs rt) s) s hi lo := by
  rw [exec, execDdiv, result]
  exact writesHiLo_next s hi lo

theorem exec_div_overflow (result : divWord (low32 (s.gpr rs)) (low32 (s.gpr rt)) = none) :
    exec (.div rs rt) s = divOverflowResult 0xFFFFFFFF80000000#64 s := by
  rw [exec, execDiv, result, show sext32 0x80000000#32 = 0xFFFFFFFF80000000#64 by decide]

theorem exec_ddiv_overflow (result : divDouble (s.gpr rs) (s.gpr rt) = none) :
    exec (.ddiv rs rt) s = divOverflowResult 0x8000000000000000#64 s := by
  rw [exec, execDdiv, result]

theorem writesHiLo_divu (result : divuWord (low32 (s.gpr rs)) (low32 (s.gpr rt)) = (lo, hi)) :
    WritesHiLo (exec (.divu rs rt) s) s hi lo := by
  rw [exec, execDivu, result]
  exact writesHiLo_next s hi lo

theorem writesHiLo_ddivu (result : divuDouble (s.gpr rs) (s.gpr rt) = (lo, hi)) :
    WritesHiLo (exec (.ddivu rs rt) s) s hi lo := by
  rw [exec, execDdivu, result]
  exact writesHiLo_next s hi lo

end instructions

/-- Settles O32: the zero divisor, the overflow and the ordinary division of each form. -/
theorem divide : Obligations.Divide := by
  unfold Obligations.Divide
  intro s rs rt x y lx ly keep res
  refine ⟨fun zero => ?_, fun zero => ?_, fun dividend divisor => ?_, fun dividend divisor => ?_,
    fun nonzero ordinary => ?_, fun nonzero => ?_, fun nonzero ordinary => ?_, fun nonzero => ?_⟩
  · exact ⟨writesHiLo_div (divWord_zero zero), writesHiLo_divu (divuWord_zero zero)⟩
  · exact ⟨writesHiLo_ddiv (divDouble_zero zero), writesHiLo_ddivu (divuDouble_zero zero)⟩
  · exact divOverflow_cases (exec_div_overflow (divWord_overflow dividend divisor))
  · exact divOverflow_cases (exec_ddiv_overflow (divDouble_overflow dividend divisor))
  · obtain ⟨sum, small, nonneg, nonpos⟩ := tdiv_tmod_spec lx.toInt (BitVec.toInt_ne.2 nonzero)
    exact ⟨_, _, sum, small, nonneg, nonpos, writesHiLo_div (divWord_ordinary nonzero ordinary)⟩
  · exact ⟨_, _, (Nat.div_add_mod _ _).symm, Nat.mod_lt _ (Nat.pos_of_ne_zero (BitVec.toNat_ne.1 nonzero)),
      writesHiLo_divu (divuWord_nonzero nonzero)⟩
  · obtain ⟨sum, small, nonneg, nonpos⟩ := tdiv_tmod_spec x.toInt (BitVec.toInt_ne.2 nonzero)
    exact ⟨_, _, sum, small, nonneg, nonpos, writesHiLo_ddiv (divDouble_ordinary nonzero ordinary)⟩
  · exact ⟨_, _, (Nat.div_add_mod _ _).symm, Nat.mod_lt _ (Nat.pos_of_ne_zero (BitVec.toNat_ne.1 nonzero)),
      writesHiLo_ddivu (divuDouble_nonzero nonzero)⟩

end Sys2Proof.Machine
end

section
/-! Proofs about jumps and branches (42_branch_jump.md R400 to R428): their targets, their conditions, then what each
form does outside a delay slot. -/

namespace Sys2Proof.Machine

/-! ### Targets -/

/-- R400: two zero bits below the offset are its product by 4. -/
theorem branchTarget_eq (s : State) (off : Half) : s.branchTarget off = s.pc + BitVec.ofInt 64 (4 * off.toInt) := by
  rw [State.branchTarget, BitVec.signExtend, BitVec.toInt_append_zero]
  rfl

/-- R401: a field of 28 bits that replaces the low bits of an address. -/
theorem jumpTarget_eq (s : State) (target : BitVec 26) :
    s.jumpTarget target = BitVec.ofNat 64 (s.pc.toNat / 2 ^ 28 * 2 ^ 28 + target.toNat * 4) := by
  have field := target.isLt
  have address := s.pc.isLt
  apply BitVec.eq_of_toNat_eq
  rw [State.jumpTarget, BitVec.toNat_append, BitVec.toNat_append, BitVec.extractLsb'_toNat,
    ← Nat.shiftLeft_add_eq_or_of_lt field, BitVec.toNat_zero, Nat.or_zero, BitVec.toNat_ofNat,
    Nat.shiftRight_eq_div_pow, Nat.shiftLeft_eq, Nat.shiftLeft_eq]
  omega

/-! ### Conditions (R429) -/

theorem bne_eq_decide (x y : Word) : (x != y) = decide (x ≠ y) := (decide_not (p := x = y)).symm

theorem isNeg_eq (v : Word) : isNeg v = decide (v.toInt < 0) := BitVec.slt_eq_decide

theorem isNonPos_eq (v : Word) : isNonPos v = decide (v.toInt ≤ 0) := BitVec.sle_eq_decide

theorem not_isNeg_eq (v : Word) : (!isNeg v) = decide (0 ≤ v.toInt) := by
  rw [isNeg_eq, ← decide_not, decide_eq_decide, Int.not_lt]

theorem not_isNonPos_eq (v : Word) : (!isNonPos v) = decide (0 < v.toInt) := by
  rw [isNonPos_eq, ← decide_not, decide_eq_decide, Int.not_le]

/-! ### Outcomes -/

section outcomes
variable {s u : State} {c : Touch} {o : Result} {P : State → Prop}

theorem completes_controlTransfer (free : NotInDelaySlot s) (completes : Completes o c s P) :
    Completes (controlTransfer s o) c s P := (controlTransfer_free free o).symm ▸ completes

theorem completes_withCop1 (usable : Cop1Usable s) (completes : Completes o c s P) :
    Completes (withCop1 s o) c s P := (withCop1_usable usable o).symm ▸ completes

/-- R270: a jump, after its link is written. -/
theorem completes_delayBranch (a : Word) (control : c.control = true) (link : Frame c s u) (pc : u.pc = s.pc)
    (value : P (delayBranch a u)) :
    Completes (.next (delayBranch a u)) c s fun t => t.pending = some ⟨a, .two⟩ ∧ t.pc = s.pc ∧ P t :=
  completes_next (link.trans (frame_pending u _ control)) ⟨rfl, pc, value⟩

end outcomes

theorem gpr_setGpr_self (s : State) (r : Reg) (v : Word) : (s.setGpr r v).gpr r = if r = 0#5 then 0#64 else v := by
  obtain ⟨_, next, -, value⟩ := writesGpr_next s r v
  exact Host.Outcome.next.inj next ▸ value

/-- Settles O35: each jump records its target after the link is written, and J's and JAL's target by its number. -/
theorem jumps : Obligations.Jumps := by
  unfold Obligations.Jumps
  intro s rs rd target free region completesWith
  have target_eq : s.jumpTarget target = region := jumpTarget_eq s target
  rw [← target_eq]
  have link (r : Reg) : Frame { gprs := [r], control := true } s (s.setGpr r s.link) :=
    frame_setGpr s r _ (List.mem_singleton_self r)
  refine ⟨?_, ?_, ?_, ?_⟩ <;> apply completes_controlTransfer free
  · exact completes_delayBranch _ rfl (Frame.refl _ s) rfl trivial
  · exact completes_delayBranch _ rfl (link linkReg) rfl (gpr_setGpr_self s linkReg s.link)
  · exact completes_delayBranch _ rfl (Frame.refl _ s) rfl trivial
  · exact completes_delayBranch _ rfl (link rd) rfl (gpr_setGpr_self s rd s.link)

/-! ### Branches -/

/-- R403: the ordinary and the likely outcome of a branch. -/
def branchAs (likely : Bool) : Bool → Word → State → State :=
  match likely with
  | false => branchIf
  | true => branchLikely

/-- R402: a link form writes its link first. -/
def linkIf (link : Bool) (s : State) : State :=
  match link with
  | false => s
  | true => s.setGpr linkReg s.link

/-- R403: `pending` and `pc` after a branch from `s`, taken or not. -/
def BranchesTo (taken likely : Bool) (a : Word) (s t : State) : Prop :=
  (taken = true → t.pending = some ⟨a, .two⟩ ∧ t.pc = s.pc) ∧
  (taken = false → t.pending = none ∧ t.pc = if likely then s.pc + 4#64 else s.pc)

theorem branchesTo_branchAs {s : State} (free : s.pending = none) (taken likely : Bool) (a : Word) :
    BranchesTo taken likely a s (branchAs likely taken a s) := by
  cases taken
  · refine ⟨nofun, fun _ => ?_⟩
    cases likely <;> exact ⟨free, rfl⟩
  · refine ⟨fun _ => ?_, nofun⟩
    cases likely <;> exact ⟨rfl, rfl⟩

theorem frame_branchAs {c : Touch} (likely taken : Bool) (a : Word) (s : State) (control : c.control = true) :
    Frame c s (branchAs likely taken a s) := by
  cases likely
  · exact frame_branchIf taken a s control
  · exact frame_branchLikely taken a s control

theorem gpr_branchAs (likely taken : Bool) (a : Word) (s : State) (r : Reg) :
    (branchAs likely taken a s).gpr r = s.gpr r := by
  cases likely
  · exact gpr_branchIf s taken a r
  · exact gpr_branchLikely s taken a r

section branches
variable {s : State} {off : Half} {taken likely link : Bool}

theorem completes_branchAs (free : NotInDelaySlot s) :
    Completes (.next (branchAs likely taken (s.branchTarget off) (linkIf link s)))
      { gprs := if link then [31#5] else [], control := true } s fun t =>
        (link = true → t.gpr 31#5 = s.pc + 4#64) ∧
        BranchesTo taken likely (s.pc + BitVec.ofInt 64 (4 * off.toInt)) s t := by
  rw [branchTarget_eq]
  cases link
  · exact completes_next (frame_branchAs _ _ _ s rfl) ⟨nofun, branchesTo_branchAs free _ _ _⟩
  · refine completes_next ((frame_setGpr s linkReg s.link ?_).trans (frame_branchAs _ _ _ _ rfl)) ⟨fun _ => ?_, ?_⟩
    · exact List.mem_singleton_self _
    · exact (gpr_branchAs _ _ _ _ _).trans (gpr_setGpr_self s linkReg s.link)
    · exact branchesTo_branchAs (s := s.setGpr linkReg s.link) free _ _ _

theorem completes_branchAs_noLink (free : NotInDelaySlot s) :
    Completes (.next (branchAs likely taken (s.branchTarget off) s)) { control := true } s
      (BranchesTo taken likely (s.pc + BitVec.ofInt 64 (4 * off.toInt)) s) := by
  obtain ⟨t, next, frame, -, branches⟩ := completes_branchAs (link := false) free
  exact ⟨t, next, frame, branches⟩

end branches

/-- The meaning that the integer branches share (R409 to R424). -/
def branchResult (s : State) (off : Half) (likely link taken : Bool) : Result :=
  controlTransfer s (.next (branchAs likely taken (s.branchTarget off) (linkIf link s)))

/-- Settles O36: each row is the ordinary or the likely outcome of its condition, with or without the link. -/
theorem integerBranches : Obligations.IntegerBranches := by
  unfold Obligations.IntegerBranches
  intro s rs rt off free x y p row
  have meaning : exec p.1 s = branchResult s off p.2.2.1 p.2.2.2 p.2.1 := by
    simp only [List.mem_cons, List.not_mem_nil, or_false] at row
    obtain rfl | rfl | rfl | rfl | rfl | rfl | rfl | rfl | rfl | rfl | rfl | rfl | rfl | rfl | rfl | rfl := row
    case inl | inr.inl => rfl
    exacts [congrArg (branchResult s off false false) (bne_eq_decide x y),
      congrArg (branchResult s off true false) (bne_eq_decide x y),
      congrArg (branchResult s off false false) (isNonPos_eq x),
      congrArg (branchResult s off true false) (isNonPos_eq x),
      congrArg (branchResult s off false false) (not_isNonPos_eq x),
      congrArg (branchResult s off true false) (not_isNonPos_eq x),
      congrArg (branchResult s off false false) (isNeg_eq x),
      congrArg (branchResult s off true false) (isNeg_eq x),
      congrArg (branchResult s off false true) (isNeg_eq x),
      congrArg (branchResult s off true true) (isNeg_eq x),
      congrArg (branchResult s off false false) (not_isNeg_eq x),
      congrArg (branchResult s off true false) (not_isNeg_eq x),
      congrArg (branchResult s off false true) (not_isNeg_eq x),
      congrArg (branchResult s off true true) (not_isNeg_eq x)]
  rw [meaning]
  exact completes_controlTransfer free (completes_branchAs free)

/-- Settles O37: each row is the ordinary or the likely outcome of the condition bit. -/
theorem cop1Branches : Obligations.Cop1Branches := by
  unfold Obligations.Cop1Branches
  intro s off free usable p row
  have meaning : exec p.1 s =
      controlTransfer s (withCop1 s (.next (branchAs p.2.2 p.2.1 (s.branchTarget off) s))) := by
    simp only [List.mem_cons, List.not_mem_nil, or_false] at row
    obtain rfl | rfl | rfl | rfl := row <;> rfl
  rw [meaning]
  exact completes_controlTransfer free (completes_withCop1 usable (completes_branchAs_noLink free))

end Sys2Proof.Machine
end

section
/-! Proofs about integer loads and stores (43_load_store.md R455 to R465): the two extensions as those of bit vectors,
then the outcomes of a load and of a store of any width. -/

namespace Sys2Proof.Machine

/-! ### Extensions (R452) -/

/-- The sign that the left shift brings to the top is that of the low `n` bytes. -/
theorem msb_shiftLeft_lowBytes {n : Nat} (fits : n ≤ 8) (v : Word) :
    (v <<< (64 - 8 * n)).msb = (v.setWidth (8 * n)).msb := by
  rw [BitVec.msb_eq_getLsbD_last, BitVec.msb_eq_getLsbD_last, BitVec.getLsbD_shiftLeft, BitVec.getLsbD_setWidth]
  cases n with
  | zero => rfl
  | succ n =>
    have sign : 64 - 1 - (64 - 8 * (n + 1)) = 8 * (n + 1) - 1 := by omega
    have shifted : ¬ 64 - 1 < 64 - 8 * (n + 1) := by omega
    have inside : 8 * (n + 1) - 1 < 8 * (n + 1) := by omega
    rw [sign, decide_eq_false shifted, decide_eq_true inside]
    rfl

/-- R452: the two shifts copy the bit at the top of the low `n` bytes into every bit above. -/
theorem signExt_eq_signExtend {n : Nat} (fits : n ≤ 8) (v : Word) :
    signExt n v = (v.setWidth (8 * n)).signExtend 64 := by
  apply BitVec.eq_of_getLsbD_eq
  intro i hi
  rw [signExt, BitVec.getLsbD_sshiftRight, BitVec.getLsbD_signExtend, msb_shiftLeft_lowBytes fits]
  by_cases low : i < 8 * n
  · have inRange : 64 - 8 * n + i < 64 := by omega
    simp [hi, low, inRange]
  · have outOfRange : ¬ 64 - 8 * n + i < 64 := by omega
    simp [hi, low, outOfRange]

theorem zeroExt_eq_setWidth {n : Nat} (fits : n ≤ 8) (v : Word) : zeroExt n v = (v.setWidth (8 * n)).setWidth 64 := by
  apply BitVec.eq_of_getLsbD_eq
  intro i hi
  rw [zeroExt, getLsbD_lowBytes n fits, BitVec.getLsbD_setWidth, BitVec.getLsbD_setWidth, decide_eq_true hi,
    Bool.true_and]

/-- A doubleword has no bits to extend. -/
theorem zeroExt_eight (v : Word) : zeroExt 8 v = v :=
  (zeroExt_eq_setWidth le_rfl v).trans ((BitVec.setWidth_eq _).trans (BitVec.setWidth_eq v))

/-! ### Outcomes -/

section outcomes
variable {n pa : Nat} {ext : Word → Word} {base rt : Reg} {offset : Half} {s u : State} {v : Word} {f : Fault}

theorem loadGpr_of_ok (read : load n (s.effAddr base offset) s = .ok (v, u)) :
    loadGpr n ext base rt offset s = .next (u.setGpr rt (ext v)) := by
  rw [loadGpr, read, orFault_ok]

theorem loadGpr_of_error (halts : load n (s.effAddr base offset) s = .error f) :
    loadGpr n ext base rt offset s = .fault f := by
  rw [loadGpr, halts, orFault_error]

theorem writesGpr_loadGpr (pos : 0 < n) (access : MemoryAccess s n (s.effAddr base offset) pa) :
    WritesGpr (loadGpr n ext base rt offset s) s rt (ext (s.mem.readBE pa n)) := by
  rw [loadGpr_of_ok (load_memory pos access)]
  exact writesGpr_next ..

theorem storeGpr_of_ok (written : store n (s.effAddr base offset) (s.gpr rt) s = .ok u) :
    storeGpr n base rt offset s = .next u := by
  rw [storeGpr, written, orFault_ok]

theorem storeGpr_of_error (halts : store n (s.effAddr base offset) (s.gpr rt) s = .error f) :
    storeGpr n base rt offset s = .fault f := by
  rw [storeGpr, halts, orFault_error]

/-- R171: the bytes of a big-endian write. -/
theorem storesBytes_next (wf : s.mem.wf) (pa n : Nat) (v : Word) :
    StoresBytes (.next { s with mem := s.mem.writeBE pa n v }) s pa n v := by
  refine completes_next (frame_writeBE s pa n v wf rfl) fun k hk => ?_
  have inside : pa ≤ pa + k ∧ pa + k < pa + n := by omega
  rw [Memory.byte_writeBE pa n v wf, if_pos inside, Nat.add_sub_cancel_left, byteBE]

theorem storesBytes_storeGpr (pos : 0 < n) (wf : s.mem.wf) (access : MemoryAccess s n (s.effAddr base offset) pa) :
    StoresBytes (storeGpr n base rt offset s) s pa n (s.gpr rt) := by
  rw [storeGpr_of_ok (store_memory _ pos access)]
  exact storesBytes_next wf pa n _

end outcomes

/-- Settles O42: each row is a load of its width under its extension. -/
theorem integerLoads : Obligations.IntegerLoads := by
  unfold Obligations.IntegerLoads
  intro s base rt offset va p row
  obtain ⟨pos, meaning⟩ : 0 < p.2.1 ∧ exec p.1 s = loadGpr p.2.1 p.2.2 base rt offset s := by
    have signed {n : Nat} (fits : n ≤ 8) := funext (signExt_eq_signExtend fits)
    have unsigned {n : Nat} (fits : n ≤ 8) := funext (zeroExt_eq_setWidth fits)
    simp only [List.mem_cons, List.not_mem_nil, or_false] at row
    obtain rfl | rfl | rfl | rfl | rfl | rfl | rfl := row <;>
      refine ⟨Nat.succ_pos _, congrArg (loadGpr _ · base rt offset s) ?_⟩
    exacts [signed (by decide), unsigned (by decide), signed (by decide), unsigned (by decide), signed (by decide),
      unsigned (by decide), funext zeroExt_eight]
  rw [meaning]
  exact ⟨fun _ => writesGpr_loadGpr pos, fun _ _ => loadGpr_of_ok, fun _ => loadGpr_of_error⟩

/-- Settles O43: each row is a store of its width. -/
theorem integerStores : Obligations.IntegerStores := by
  unfold Obligations.IntegerStores
  intro s base rt offset va p row
  obtain ⟨pos, meaning⟩ : 0 < p.2 ∧ exec p.1 s = storeGpr p.2 base rt offset s := by
    simp only [List.mem_cons, List.not_mem_nil, or_false] at row
    obtain rfl | rfl | rfl | rfl := row <;> exact ⟨Nat.succ_pos _, rfl⟩
  rw [meaning]
  exact ⟨fun _ => storesBytes_storeGpr pos, fun _ => storeGpr_of_ok, fun _ => storeGpr_of_error⟩

end Sys2Proof.Machine
end

section
/-! Proofs about the COP0 moves (44_cop0_system.md R500 to R504): what `cp0_read` and `cp0_write` do to each register,
then the four instructions. -/

namespace Sys2Proof.Machine

/-! ### Writes (R500) -/

theorem cop0Write_readOnly {r : Reg} (readOnly : r ∈ [1#5, 8#5, 15#5]) (v : Word32) (s : State) :
    cop0Write r v s = s := by
  simp only [List.mem_cons, List.not_mem_nil, or_false] at readOnly
  exact if_pos readOnly

theorem cop0Write_count (v : Word32) (s : State) :
    cop0Write 9#5 v s = { s with ticks := v.setWidth 64 <<< s.params.countShift } := rfl

theorem cop0Write_compare (v : Word32) (s : State) :
    cop0Write 11#5 v s = (s.setCop0 11#5 v).setCop0 13#5 (Cause.setTimer s.cause false) := rfl

theorem cop0Write_cause (v : Word32) (s : State) :
    cop0Write 13#5 v s = s.setCop0 13#5 (Cause.software s.cause v) := rfl

theorem cop0Write_stored {r : Reg} (stored : r ∉ [1#5, 8#5, 9#5, 11#5, 13#5, 15#5]) (v : Word32) (s : State) :
    cop0Write r v s = s.setCop0 r v := by
  simp only [List.mem_cons, List.not_mem_nil, or_false, not_or] at stored
  obtain ⟨random, badVAddr, count, compare, cause, prid⟩ := stored
  exact (if_neg (not_or.2 ⟨random, not_or.2 ⟨badVAddr, prid⟩⟩)).trans <| (if_neg count).trans <|
    (if_neg compare).trans (if_neg cause)

/-- The timer interrupt is cleared by masking bit 15 away. -/
theorem setTimer_false (w : Word32) : Cause.setTimer w false = w &&& 0xFFFF7FFF#32 := setBit_false w 15

/-- A COP0 write of one register changes that register only. -/
theorem completes_setCop0 (s : State) (r : Reg) (v : Word32) :
    Completes (.next (s.setCop0 r v)) { cop0 := [r] } s fun t => t.cop0 r = v :=
  completes_next (frame_setCop0 s r v (List.mem_singleton_self r)) (cop0_setCop0_same s r v)

theorem completes_cop0Write_compare (v : Word32) (s : State) :
    Completes (.next (cop0Write 11#5 v s)) { cop0 := [11#5, 13#5] } s fun t =>
      t.cop0 11#5 = v ∧ t.cause = s.cause &&& 0xFFFF7FFF#32 := by
  rw [cop0Write_compare, setTimer_false]
  refine completes_next ((frame_setCop0 s _ v ?_).trans (frame_setCop0 _ _ _ ?_)) ⟨?_, cop0_setCop0_same _ _ _⟩
  · exact List.mem_cons_self
  · exact List.mem_cons_of_mem _ List.mem_cons_self
  · rw [cop0_setCop0_other _ _ _ _ (by decide), cop0_setCop0_same]

/-- Settles O49: MTC0 and DMTC0 are one write, and each register number stands in one of its cases. -/
theorem cop0Writes : Obligations.Cop0Writes := by
  unfold Obligations.Cop0Writes
  intro s rt rd i move v
  have meaning : exec i s = .next (cop0Write rd v s) := by
    simp only [List.mem_cons, List.not_mem_nil, or_false] at move
    obtain rfl | rfl := move <;> rfl
  rw [meaning]
  refine ⟨fun readOnly => ?_, ?_, ?_, ?_, fun stored => ?_⟩
  · rw [cop0Write_readOnly readOnly]
  · rintro rfl
    rw [cop0Write_count]
  · rintro rfl
    exact completes_cop0Write_compare v s
  · rintro rfl
    rw [cop0Write_cause]
    exact completes_setCop0 s 13#5 _
  · rw [cop0Write_stored stored]
    exact completes_setCop0 s rd v

/-! ### Reads (R500) -/

theorem cop0Read_stored {r : Reg} (stored : r ≠ 1#5) (s : State) :
    cop0Read r s = .ok (if r = 9#5 then (s.ticks >>> s.params.countShift).setWidth 32 else s.cop0 r, s) := by
  rw [cop0Read, if_neg (c := r = Cop0.random) stored]
  exact (apply_ite (fun v => Except.ok (v, s)) (r = 9#5) s.count (s.cop0 r)).symm

theorem cop0Read_random_halts {s : State} (wired : 31 < (s.cop0 6#5).toNat) :
    cop0Read 1#5 s = .error .randomRange := if_pos wired

theorem cop0Read_random {s : State} (wired : (s.cop0 6#5).toNat ≤ 31) :
    cop0Read 1#5 s = .ok (randomValue (s.cop0 6#5) (Config.randomDraw s.draws), { s with draws := s.draws + 1 }) :=
  if_neg (Nat.not_lt.2 wired)

/-- 10_state.md R56: whatever is drawn, the value lies between Wired and 31, so its sign extension is the number
itself. -/
theorem sext32_randomValue {wired : Word32} (bound : wired.toNat ≤ 31) (d : Nat) :
    ∃ v : Nat, wired.toNat ≤ v ∧ v ≤ 31 ∧ sext32 (randomValue wired d) = BitVec.ofNat 64 v := by
  have below : d % (32 - wired.toNat) < 32 - wired.toNat := Nat.mod_lt d (by omega)
  refine ⟨wired.toNat + d % (32 - wired.toNat), by omega, by omega, ?_⟩
  exact sext32_ofInt (wired.toNat + d % (32 - wired.toNat) : Nat) (by omega) (by omega)

/-- Settles O48: MFC0 and DMFC0 are one read, sign-extended; only a read of Random draws or halts. -/
theorem cop0Reads : Obligations.Cop0Reads := by
  unfold Obligations.Cop0Reads
  intro s rt rd i move
  have meaning : exec i s = orFault (cop0Read rd s) fun (v, u) => .next (u.setGpr rt (sext32 v)) := by
    simp only [List.mem_cons, List.not_mem_nil, or_false] at move
    obtain rfl | rfl := move <;> rfl
  rw [meaning]
  refine ⟨fun stored => ?_, ?_, ?_⟩
  · rw [cop0Read_stored stored, orFault_ok]
    exact writesGpr_next s rt _
  · rintro rfl wired
    rw [cop0Read_random_halts wired, orFault_error]
  · rintro rfl wired
    obtain ⟨v, lower, upper, value⟩ := sext32_randomValue wired (Config.randomDraw s.draws)
    rw [cop0Read_random wired, orFault_ok]
    dsimp only
    rw [value]
    refine completes_next ((frame_draws s (s.draws + 1) rfl).trans (frame_setGpr _ rt _ ?_)) ⟨v, lower, upper, ?_⟩
    · exact List.mem_singleton_self rt
    · exact gpr_setGpr_self _ rt _

end Sys2Proof.Machine
end

section
/-! Proofs about exception entry and the COP1 check (60_exceptions.md R710, 45_fpu_move_arith.md R550). -/

namespace Sys2Proof.Machine

/-- R710: what exception entry does to each register it writes, and its frame. -/
theorem enteredException_exceptionEntry (code : BitVec 5) (ce : BitVec 2) (ret : Word) (inDelay : Bool) (s : State) :
    EnteredException code ce ret inDelay s (exceptionEntry code ce ret inDelay s) where
  bd := by rw [exceptionEntry_cause, getLsbD_entry, if_pos rfl]
  epc := exceptionEntry_epc code ce ret inDelay s
  excCode := by rw [exceptionEntry_cause, entry_code]
  ceField := by rw [exceptionEntry_cause, entry_ce]
  causeRest := by rw [exceptionEntry_cause, entry_and _ _ _ _ _ (by decide)]
  exl := (exceptionEntry_status code ce ret inDelay s).trans (setBit_true s.status 1 (by decide))
  vector := exceptionEntry_pc s code ce ret inDelay
  branch := exceptionEntry_pending s code ce ret inDelay
  frame := frame_exceptionEntry code ce ret inDelay s

/-- R550: the check of CU1 stands outermost in every COP1 instruction, after the delay-slot check of BC1 (R275). -/
theorem exec_eq_withCop1 {i : Instr} {s : State} (uses : usesCop1 i = true)
    (free : isControlTransfer i = true → s.pending = none) : ∃ r, exec i s = withCop1 s r := by
  cases i
  case bc1f | bc1t | bc1fl | bc1tl => exact ⟨_, controlTransfer_free (free rfl) _⟩
  all_goals cases uses
  all_goals exact ⟨_, rfl⟩

/-- Settles O13: every COP1 instruction begins with the check of CU1, which raises the exception in its place. -/
theorem unusableCop1Raises : Obligations.UnusableCop1Raises := by
  unfold Obligations.UnusableCop1Raises
  intro i s uses unusable free
  obtain ⟨r, checked⟩ := exec_eq_withCop1 uses free
  exact ⟨_, checked.trans (withCop1_unusable unusable r), enteredException_exceptionEntry _ _ _ _ s⟩

end Sys2Proof.Machine
end

section
/-! Proofs about the FP compares (46_fpu_convert_compare.md R656 to R691). -/

namespace Sys2Proof.Machine

/-- The instruction completes and sets FCSR bit 23 to `b`, and changes nothing else (10_state.md R115). -/
def WritesFcsrCond (o : Result) (s : State) (b : Bool) : Prop :=
  Completes o { fcsr := true } s fun t =>
    t.fcr31 = if b then s.fcr31 ||| 0x800000#32 else s.fcr31 &&& 0xFF7FFFFF#32

/-- The condition is set by masking bit 23 in or away. -/
theorem setCond_eq (w : Word32) (b : Bool) :
    Fcsr.setCond w b = if b then w ||| 0x800000#32 else w &&& 0xFF7FFFFF#32 := by
  cases b with
  | true => exact setBit_true w 23 (by decide)
  | false => exact setBit_false w 23

theorem writesFcsrCond_setCond (s : State) (b : Bool) :
    WritesFcsrCond (.next { s with fcr31 := Fcsr.setCond s.fcr31 b }) s b :=
  completes_next (frame_fcr31 s _ rfl) (setCond_eq s.fcr31 b)

section compares
variable {s : State} (c : BitVec 4) (ft fs : Reg)

theorem writesFcsrCond_fpCondS (usable : Cop1Usable s) :
    WritesFcsrCond (fpCondS c ft fs s) s (fpCondition c (fpCompare (f32 (s.fpr32 fs)) (f32 (s.fpr32 ft)))) :=
  completes_withCop1 usable (writesFcsrCond_setCond s _)

theorem writesFcsrCond_fpCondD (usable : Cop1Usable s) (even : EvenWhenPaired s [fs, ft]) :
    WritesFcsrCond (fpCondD c ft fs s) s (fpCondition c (fpCompare (f64 (s.fpr64 fs)) (f64 (s.fpr64 ft)))) := by
  rw [fpCondD, needPairs_even even]
  exact completes_withCop1 usable (writesFcsrCond_setCond s _)

end compares

/-- Settles O54: each row is a pair of compares with one condition number, whose bits are the row's entries. -/
theorem compares : Obligations.Compares := by
  unfold Obligations.Compares
  intro s ft fs usable bitOf sets p row
  obtain ⟨c, inS, inD, entry⟩ : ∃ c, exec p.1 s = fpCondS c ft fs s ∧ exec p.2.1 s = fpCondD c ft fs s ∧
      ∀ o, fpCondition c o = bitOf o p.2.2.1 p.2.2.2.1 p.2.2.2.2.1 p.2.2.2.2.2 := by
    simp only [List.mem_cons, List.not_mem_nil, or_false] at row
    obtain rfl | rfl | rfl | rfl | rfl | rfl | rfl | rfl | rfl | rfl | rfl | rfl | rfl | rfl | rfl | rfl := row <;>
      exact ⟨_, rfl, rfl, fun o => by cases o <;> rfl⟩
  rw [← entry, ← entry]
  constructor
  · change WritesFcsrCond (exec p.1 s) s _
    rw [inS]
    exact writesFcsrCond_fpCondS c ft fs usable
  · intro even
    change WritesFcsrCond (exec p.2.1 s) s _
    rw [inD]
    exact writesFcsrCond_fpCondD c ft fs usable even

end Sys2Proof.Machine
end

section
/-! Proofs about exception entry and the two phases of a step that precede the fetch, the interrupt check and the timer
tick (60_exceptions.md R710, R720, R730). -/

namespace Sys2Proof.Machine

/-- Settles O9, by the rule of each register that exception entry writes. -/
theorem exceptionEntryWrites : Obligations.ExceptionEntryWrites := by
  unfold Obligations.ExceptionEntryWrites
  exact enteredException_exceptionEntry

theorem checkInterrupts_of_taken {s : State} (taken : interruptTaken s.status s.cause = true) :
    checkInterrupts s = exceptionEntry ExcCode.int 0#2 s.pc s.pending.isSome s := if_pos taken

theorem checkInterrupts_of_not_taken {s : State} (idle : ¬ interruptTaken s.status s.cause = true) :
    checkInterrupts s = s := if_neg idle

/-- Settles O10: the check's condition is R720's, and what it does when it holds is exception entry. -/
theorem interruptCheck : Obligations.InterruptCheck := by
  unfold Obligations.InterruptCheck
  intro s
  rw [← interruptTaken_iff]
  constructor
  · intro taken
    rw [checkInterrupts_of_taken taken]
    exact enteredException_exceptionEntry _ _ _ _ s
  · exact checkInterrupts_of_not_taken

theorem setTimer_true (w : Word32) : Cause.setTimer w true = w ||| 0x8000#32 := setBit_true w 15 (by decide)

/-- Count after the tick: the new ticks shifted (10_state.md R58). -/
theorem count_countTick (s : State) :
    (countTick s).count = ((s.ticks + 1#64) >>> s.params.countShift).setWidth 32 := rfl

theorem timerTick_of_match {s : State} (hit : (countTick s).count = s.cop0 Cop0.compare) :
    timerTick s = (countTick s).setCop0 Cop0.cause (s.cause ||| 0x8000#32) := by
  rw [timerTick, if_pos hit, setTimer_true]

theorem timerTick_of_no_match {s : State} (miss : (countTick s).count ≠ s.cop0 Cop0.compare) :
    timerTick s = countTick s := if_neg miss

theorem timerTick_ticks (s : State) : (timerTick s).ticks = s.ticks + 1#64 := by
  by_cases hit : (countTick s).count = s.cop0 Cop0.compare
  · rw [timerTick_of_match hit]
    rfl
  · rw [timerTick_of_no_match hit]
    rfl

theorem timerTick_cause (s : State) : (timerTick s).cause =
    if (countTick s).count = s.cop0 Cop0.compare then s.cause ||| 0x8000#32 else s.cause := by
  by_cases hit : (countTick s).count = s.cop0 Cop0.compare
  · rw [timerTick_of_match hit, if_pos hit]
    exact cop0_setCop0_same _ _ _
  · rw [timerTick_of_no_match hit, if_neg hit]
    rfl

/-- But for the ticks, the tick writes Cause or nothing. -/
theorem frame_timerTick (s : State) : Frame { cop0 := [13#5] } s { timerTick s with ticks := s.ticks } := by
  by_cases hit : (countTick s).count = s.cop0 Cop0.compare
  · rw [timerTick_of_match hit]
    exact frame_setCop0 s Cop0.cause _ (by decide)
  · rw [timerTick_of_no_match hit]
    exact Frame.refl _ s

/-- Settles O11, by whether Count meets Compare after the increment. -/
theorem timerTick_spec : Obligations.TimerTick := by
  unfold Obligations.TimerTick
  intro s
  refine ⟨timerTick_ticks s, ?_, ?_, rfl⟩
  · rw [← count_countTick]
    exact timerTick_cause s
  · rintro _ rfl
    exact frame_timerTick s

end Sys2Proof.Machine
end

section
/-! Proofs about the decoder and the encoder (30_encoding.md R200 to R212). -/

namespace Sys2Proof

/-! ## The table that a word's opcode and selector redirect to -/

section redirects
variable {w : Word32}

theorem decodePrimary_of_special (op : Field.op w = 0x00#6) : decodePrimary w = decodeSpecial w := by
  rw [decodePrimary, op]
  rfl

theorem decodePrimary_of_regimm (op : Field.op w = 0x01#6) : decodePrimary w = decodeRegimm w := by
  rw [decodePrimary, op]
  rfl

theorem decodePrimary_of_cop0 (op : Field.op w = 0x10#6) : decodePrimary w = decodeCop0 w := by
  rw [decodePrimary, op]
  rfl

theorem decodePrimary_of_cop1 (op : Field.op w = 0x11#6) : decodePrimary w = decodeCop1 w := by
  rw [decodePrimary, op]
  rfl

theorem decodePrimary_of_fpuBranch (op : Field.op w = 0x11#6) (rs : Field.rs w = 0x08#5) :
    decodePrimary w = decodeFpuBranch w := by
  rw [decodePrimary_of_cop1 op, decodeCop1, rs]
  rfl

theorem decodePrimary_of_fpuS (op : Field.op w = 0x11#6) (rs : Field.rs w = 0x10#5) :
    decodePrimary w = decodeFpuS w := by
  rw [decodePrimary_of_cop1 op, decodeCop1, rs]
  rfl

theorem decodePrimary_of_fpuD (op : Field.op w = 0x11#6) (rs : Field.rs w = 0x11#5) :
    decodePrimary w = decodeFpuD w := by
  rw [decodePrimary_of_cop1 op, decodeCop1, rs]
  rfl

theorem decodePrimary_of_fpuW (op : Field.op w = 0x11#6) (rs : Field.rs w = 0x14#5) :
    decodePrimary w = decodeFpuW w := by
  rw [decodePrimary_of_cop1 op, decodeCop1, rs]
  rfl

theorem decodePrimary_of_fpuL (op : Field.op w = 0x11#6) (rs : Field.rs w = 0x15#5) :
    decodePrimary w = decodeFpuL w := by
  rw [decodePrimary_of_cop1 op, decodeCop1, rs]
  rfl

end redirects

/-- The tables find an encoded instruction by its key fields and read its operands back, form by form. (The two whole
words are decided before the tables.) -/
theorem decodePrimary_encode {i : Instr} (notNop : i ≠ .nop) (notEret : i ≠ .eret) :
    decodePrimary (encode i) = .ok i := by
  cases i
  case nop => contradiction
  case eret => contradiction
  case sll | srl | sra | sllv | srlv | srav | jr | jalr | sync | mfhi | mthi | mflo | mtlo | dsllv | dsrlv | dsrav
    | mult | multu | div | divu | dmult | dmultu | ddiv | ddivu | add | addu | sub | subu | and | or | xor | nor |
    slt | sltu | dadd | daddu | dsub | dsubu | dsll | dsrl | dsra | dsll32 | dsrl32 | dsra32 =>
    rw [encode, decodePrimary_of_special (op_encR ..), decodeSpecial, funct_encR]
    refine Eq.trans (b := .ok _) rfl ?_
    simp only [rs_encR, rt_encR, rd_encR, sa_encR]
  case syscall | brk =>
    rw [encode, decodePrimary_of_special (op_encCode ..), decodeSpecial, funct_encCode]
    refine Eq.trans (b := .ok _) rfl ?_
    rw [code_encCode]
  case tge | tgeu | tlt | tltu | teq | tne =>
    rw [encode, decodePrimary_of_special (op_encTrap ..), decodeSpecial, funct_encTrap]
    refine Eq.trans (b := .ok _) rfl ?_
    rw [rs_encTrap, rt_encTrap, trapCode_encTrap]
  case bltz | bgez | bltzl | bgezl | tgei | tgeiu | tlti | tltiu | teqi | tnei | bltzal | bgezal | bltzall |
    bgezall =>
    rw [encode, decodePrimary_of_regimm (op_encI ..), decodeRegimm, rt_encI]
    refine Eq.trans (b := .ok _) rfl ?_
    rw [rs_encI, imm_encI]
  case j | jal =>
    rw [encode, decodePrimary, op_encJ]
    refine Eq.trans (b := .ok _) rfl ?_
    rw [target_encJ]
  case beq | bne | blez | bgtz | addi | addiu | slti | sltiu | andi | ori | xori | lui | beql | bnel | blezl |
    bgtzl | daddi | daddiu | ldl | ldr | lb | lh | lwl | lw | lbu | lhu | lwr | lwu | sb | sh | swl | sw | sdl |
    sdr | swr | cache | ll | lwc1 | lld | ldc1 | ld | sc | swc1 | scd | sdc1 | sd =>
    rw [encode, decodePrimary, op_encI]
    refine Eq.trans (b := .ok _) rfl ?_
    simp only [rs_encI, rt_encI, imm_encI]
  case mfc0 | dmfc0 | mtc0 | dmtc0 =>
    rw [encode, decodePrimary_of_cop0 (op_encR ..), decodeCop0, rs_encR]
    refine Eq.trans (b := .ok _) rfl ?_
    rw [rt_encR, rd_encR]
  case tlbr | tlbwi | tlbwr | tlbp =>
    decide
  case mfc1 | dmfc1 | cfc1 | mtc1 | dmtc1 | ctc1 =>
    rw [encode, decodePrimary_of_cop1 (op_encR ..), decodeCop1, rs_encR]
    refine Eq.trans (b := .ok _) rfl ?_
    rw [rt_encR, rd_encR]
  case bc1f | bc1t | bc1fl | bc1tl =>
    rw [encode, decodePrimary_of_fpuBranch (op_encI ..) (rs_encI ..), decodeFpuBranch, rt_encI]
    refine Eq.trans (b := .ok _) rfl ?_
    rw [imm_encI]
  case addS | subS | mulS | divS | sqrtS | absS | movS | negS | cvtDS | cvtWS | cvtLS | roundWS | truncWS | ceilWS
    | floorWS | roundLS | truncLS | ceilLS | floorLS | cFS | cUnS | cEqS | cUeqS | cOltS | cUltS | cOleS | cUleS |
    cSfS | cNgleS | cSeqS | cNglS | cLtS | cNgeS | cLeS | cNgtS =>
    rw [encode, decodePrimary_of_fpuS (op_encR ..) (rs_encR ..), decodeFpuS, funct_encR]
    refine Eq.trans (b := .ok _) rfl ?_
    simp only [rt_encR, rd_encR, sa_encR]
  case addD | subD | mulD | divD | sqrtD | absD | movD | negD | cvtSD | cvtWD | cvtLD | roundWD | truncWD | ceilWD
    | floorWD | roundLD | truncLD | ceilLD | floorLD | cFD | cUnD | cEqD | cUeqD | cOltD | cUltD | cOleD | cUleD |
    cSfD | cNgleD | cSeqD | cNglD | cLtD | cNgeD | cLeD | cNgtD =>
    rw [encode, decodePrimary_of_fpuD (op_encR ..) (rs_encR ..), decodeFpuD, funct_encR]
    refine Eq.trans (b := .ok _) rfl ?_
    simp only [rt_encR, rd_encR, sa_encR]
  case cvtSW | cvtDW =>
    rw [encode, decodePrimary_of_fpuW (op_encR ..) (rs_encR ..), decodeFpuW, funct_encR]
    refine Eq.trans (b := .ok _) rfl ?_
    rw [rd_encR, sa_encR]
  case cvtSL | cvtDL =>
    rw [encode, decodePrimary_of_fpuL (op_encR ..) (rs_encR ..), decodeFpuL, funct_encR]
    refine Eq.trans (b := .ok _) rfl ?_
    rw [rd_encR, sa_encR]

theorem decodePrimary_zero : decodePrimary 0x00000000#32 = .ok (.sll 0#5 0#5 0#5) := by decide

theorem decodePrimary_eretWord : decodePrimary 0x42000018#32 = .error (.tlb 0x18#6) := by decide

theorem decode_encode {i : Instr} (wellFormed : i.wellFormed = true) : decode (encode i) = .ok i := by
  by_cases nop : i = .nop
  · subst nop
    exact decode_nop
  by_cases eret : i = .eret
  · subst eret
    exact decode_eret
  have row := decodePrimary_encode nop eret
  have notZero : encode i ≠ 0x00000000#32 := by
    intro zero
    rw [zero, decodePrimary_zero] at row
    cases row
    cases wellFormed
  have notEretWord : encode i ≠ 0x42000018#32 := by
    intro eretWord
    rw [eretWord, decodePrimary_eretWord] at row
    cases row
  rw [decode_of_ne notZero notEretWord, row]

/-- R200: an instruction takes its four bytes and leaves the rest. -/
theorem decodeBytes_bytesOfWord_append {w : Word32} {i : Instr} (decodes : decode w = .ok i) (rest : List Byte) :
    decodeBytes (bytesOfWord w ++ rest) = .ok (i, rest) := by
  simp only [bytesOfWord, List.cons_append, List.nil_append, decodeBytes, wordOfBytes_bytes, decodes]

/-- Settles O2: the tables read an encoded instruction back, and only SLL r0, r0, 0 shares its word with another. -/
theorem decodeOfEncode : Obligations.DecodeOfEncode := by
  unfold Obligations.DecodeOfEncode
  exact fun i rest wellFormed => decodeBytes_bytesOfWord_append (decode_encode wellFormed) rest

/-- Settles O1, by running the decoder. -/
theorem specWordsDecode : Obligations.SpecWordsDecode := by
  unfold Obligations.SpecWordsDecode
  decide

/-! ## The key bits of a word that decodes -/

/-- A word is its fields in R format (R201). -/
theorem encR_fields (w : Word32) :
    encR (Field.op w) (Field.rs w) (Field.rt w) (Field.rd w) (Field.sa w) (Field.funct w) = w := by
  unfold encR Field.op Field.rs Field.rt Field.rd Field.sa Field.funct
  apply BitVec.eq_of_getLsbD_eq
  intro i hi
  simp only [BitVec.getLsbD_extractLsb', BitVec.getLsbD_append]
  grind

theorem encI_fields (w : Word32) : encI (Field.op w) (Field.rs w) (Field.rt w) (Field.imm w) = w := by
  unfold encI Field.op Field.rs Field.rt Field.imm
  apply BitVec.eq_of_getLsbD_eq
  intro i hi
  simp only [BitVec.getLsbD_extractLsb', BitVec.getLsbD_append]
  grind

/-- `w` has the key bits of the row of the instruction that a table answers, if it answers one. -/
def KeyBitsHold (w : Word32) (r : Except Miss Instr) : Prop := ∀ i, r = .ok i → w &&& i.mask32 = i.match32

section tables
variable {w : Word32}

theorem keyBitsHold_ok {i : Instr} (key : w &&& i.mask32 = i.match32) : KeyBitsHold w (.ok i) := by
  rintro _ ⟨⟩
  exact key

theorem keyBitsHold_error (m : Miss) : KeyBitsHold w (.error m) := nofun

theorem and_opMask (w : Word32) : w &&& 0xFC000000#32 = encI (Field.op w) 0#5 0#5 0#16 := by
  conv_lhs => rw [← encI_fields w]
  exact encI_mask_FC000000 ..

theorem and_rtMask (w : Word32) : w &&& 0xFC1F0000#32 = encI (Field.op w) 0#5 (Field.rt w) 0#16 := by
  conv_lhs => rw [← encI_fields w]
  exact encI_mask_FC1F0000 ..

theorem and_branchMask (w : Word32) : w &&& 0xFFFF0000#32 = encI (Field.op w) (Field.rs w) (Field.rt w) 0#16 := by
  conv_lhs => rw [← encI_fields w]
  exact encI_mask_FFFF0000 ..

theorem and_functMask (w : Word32) :
    w &&& 0xFC00003F#32 = encR (Field.op w) 0#5 0#5 0#5 0#5 (Field.funct w) := by
  conv_lhs => rw [← encR_fields w]
  exact encR_mask_FC00003F ..

theorem and_rsFunctMask (w : Word32) :
    w &&& 0xFFE0003F#32 = encR (Field.op w) (Field.rs w) 0#5 0#5 0#5 (Field.funct w) := by
  conv_lhs => rw [← encR_fields w]
  exact encR_mask_FFE0003F ..

theorem and_rsMask (w : Word32) : w &&& 0xFFE00000#32 = encR (Field.op w) (Field.rs w) 0#5 0#5 0#5 0#6 := by
  conv_lhs => rw [← encR_fields w]
  exact encR_mask_FFE00000 ..

theorem keyBitsHold_decodeSpecial (op : Field.op w = 0x00#6) : KeyBitsHold w (decodeSpecial w) := by
  unfold decodeSpecial
  split
  case h_53 => exact keyBitsHold_error _
  all_goals
    next funct => exact keyBitsHold_ok ((and_functMask w).trans (by rw [op, funct]; rfl))

theorem keyBitsHold_decodeRegimm (op : Field.op w = 0x01#6) : KeyBitsHold w (decodeRegimm w) := by
  unfold decodeRegimm
  split
  case h_15 => exact keyBitsHold_error _
  all_goals
    next rt => exact keyBitsHold_ok ((and_rtMask w).trans (by rw [op, rt]; rfl))

theorem keyBitsHold_decodeTlb (op : Field.op w = 0x10#6) (rs : Field.rs w = 0x10#5) :
    KeyBitsHold w (decodeTlb w) := by
  unfold decodeTlb
  split
  case h_5 => exact keyBitsHold_error _
  all_goals
    next funct => exact keyBitsHold_ok ((and_rsFunctMask w).trans (by rw [op, rs, funct]; rfl))

theorem keyBitsHold_decodeCop0 (op : Field.op w = 0x10#6) : KeyBitsHold w (decodeCop0 w) := by
  unfold decodeCop0
  split
  case h_5 rs => exact keyBitsHold_decodeTlb op rs
  case h_6 => exact keyBitsHold_error _
  all_goals
    next rs => exact keyBitsHold_ok ((and_rsMask w).trans (by rw [op, rs]; rfl))

theorem keyBitsHold_decodeFpuBranch (op : Field.op w = 0x11#6) (rs : Field.rs w = 0x08#5) :
    KeyBitsHold w (decodeFpuBranch w) := by
  unfold decodeFpuBranch
  split
  case h_5 => exact keyBitsHold_error _
  all_goals
    next rt => exact keyBitsHold_ok ((and_branchMask w).trans (by rw [op, rs, rt]; rfl))

theorem keyBitsHold_decodeFpuS (op : Field.op w = 0x11#6) (rs : Field.rs w = 0x10#5) :
    KeyBitsHold w (decodeFpuS w) := by
  unfold decodeFpuS
  split
  case h_36 => exact keyBitsHold_error _
  all_goals
    next funct => exact keyBitsHold_ok ((and_rsFunctMask w).trans (by rw [op, rs, funct]; rfl))

theorem keyBitsHold_decodeFpuD (op : Field.op w = 0x11#6) (rs : Field.rs w = 0x11#5) :
    KeyBitsHold w (decodeFpuD w) := by
  unfold decodeFpuD
  split
  case h_36 => exact keyBitsHold_error _
  all_goals
    next funct => exact keyBitsHold_ok ((and_rsFunctMask w).trans (by rw [op, rs, funct]; rfl))

theorem keyBitsHold_decodeFpuW (op : Field.op w = 0x11#6) (rs : Field.rs w = 0x14#5) :
    KeyBitsHold w (decodeFpuW w) := by
  unfold decodeFpuW
  split
  case h_3 => exact keyBitsHold_error _
  all_goals
    next funct => exact keyBitsHold_ok ((and_rsFunctMask w).trans (by rw [op, rs, funct]; rfl))

theorem keyBitsHold_decodeFpuL (op : Field.op w = 0x11#6) (rs : Field.rs w = 0x15#5) :
    KeyBitsHold w (decodeFpuL w) := by
  unfold decodeFpuL
  split
  case h_3 => exact keyBitsHold_error _
  all_goals
    next funct => exact keyBitsHold_ok ((and_rsFunctMask w).trans (by rw [op, rs, funct]; rfl))

theorem keyBitsHold_decodeCop1 (op : Field.op w = 0x11#6) : KeyBitsHold w (decodeCop1 w) := by
  unfold decodeCop1
  split
  case h_7 rs => exact keyBitsHold_decodeFpuBranch op rs
  case h_8 rs => exact keyBitsHold_decodeFpuS op rs
  case h_9 rs => exact keyBitsHold_decodeFpuD op rs
  case h_10 rs => exact keyBitsHold_decodeFpuW op rs
  case h_11 rs => exact keyBitsHold_decodeFpuL op rs
  case h_12 => exact keyBitsHold_error _
  all_goals
    next rs => exact keyBitsHold_ok ((and_rsMask w).trans (by rw [op, rs]; rfl))

theorem keyBitsHold_decodePrimary (w : Word32) : KeyBitsHold w (decodePrimary w) := by
  unfold decodePrimary
  split
  case h_1 op => exact keyBitsHold_decodeSpecial op
  case h_2 op => exact keyBitsHold_decodeRegimm op
  case h_17 op => exact keyBitsHold_decodeCop0 op
  case h_18 op => exact keyBitsHold_decodeCop1 op
  case h_53 => exact keyBitsHold_error _
  all_goals
    next op => exact keyBitsHold_ok ((and_opMask w).trans (by rw [op]; rfl))

end tables

/-- Settles O3, table by table: each row is chosen by the fields that its mask covers. -/
theorem decodedWordHasItsKeyBits : Obligations.DecodedWordHasItsKeyBits := by
  unfold Obligations.DecodedWordHasItsKeyBits
  intro w i decodes
  unfold decode at decodes
  split at decodes
  case isTrue nop =>
    cases decodes
    subst nop
    rfl
  split at decodes
  case isTrue eret =>
    cases decodes
    subst eret
    rfl
  exact keyBitsHold_decodePrimary w i decodes

end Sys2Proof
end

section
/-! Proofs about the invariant of a state (10_state.md, 40_cycle.md, 60_exceptions.md, 20_memory.md). -/

namespace Sys2Proof.Machine

/-- The invariant but for the delayed branch: what every phase of a step keeps. -/
structure StableInv (s : State) : Prop where
  memory    : s.mem.wf
  blocks    : ∀ id, (s.blocks.get id).wf
  aggregate : bit s.cause 10 = aggregate s.miIntr s.miMask
  causeZero : s.cause &&& 0x4FFF7883#32 = 0#32
  hi        : HiLo.trunc s.params.hiloWidth s.hi = s.hi
  lo        : HiLo.trunc s.params.hiloWidth s.lo = s.lo
  badVAddr  : s.cop0 Cop0.badVAddr = 0#32
  random    : s.cop0 Cop0.random = 0#32
  count     : s.cop0 Cop0.count = 0#32

theorem inv_iff (s : State) : s.Inv ↔ StableInv s ∧ ∀ p, s.pending = some p → p.countdown = .one :=
  ⟨fun ⟨memory, blocks, branch, aggregate, causeZero, hi, lo, badVAddr, random, count⟩ =>
    ⟨⟨memory, blocks, aggregate, causeZero, hi, lo, badVAddr, random, count⟩, branch⟩,
  fun ⟨⟨memory, blocks, aggregate, causeZero, hi, lo, badVAddr, random, count⟩, branch⟩ =>
    ⟨memory, blocks, branch, aggregate, causeZero, hi, lo, badVAddr, random, count⟩⟩

/-! ### Updates of Cause -/

/-- What masked bits a masked write leaves. -/
theorem withMask_and (w mask v m : Word32) (apart : m &&& mask = 0#32) : withMask w mask v &&& m = w &&& m := by
  refine and_eq_of_getLsbD fun i covered => ?_
  have outside : mask.getLsbD i = false := by
    have bits := congrArg (·.getLsbD i) apart
    simpa [BitVec.getLsbD_and, covered] using bits
  rw [getLsbD_withMask, outside]
  rfl

/-- A Cause that may stand in for `w`: the aggregate and the zero bits are those of `w`. -/
def CauseLike (w v : Word32) : Prop := bit v 10 = bit w 10 ∧ v &&& 0x4FFF7883#32 = w &&& 0x4FFF7883#32

theorem causeLike_entry (w : Word32) (code : BitVec 5) (ce : BitVec 2) (bd : Bool) :
    CauseLike w (Cause.entry w code ce bd) :=
  ⟨getLsbD_entry w code ce bd 10, entry_and w code ce bd _ (by decide)⟩

theorem causeLike_setTimer (w : Word32) (b : Bool) : CauseLike w (Cause.setTimer w b) :=
  ⟨getLsbD_setBit w 15 (by decide) b 10, setBit_and w 15 (by decide) b _ (by decide)⟩

theorem causeLike_software (w v : Word32) : CauseLike w (Cause.software w v) :=
  ⟨getLsbD_withMask w _ v 10, withMask_and w _ v _ (by decide)⟩

/-! ### Updates of the state -/

variable {s t : State}

/-- The invariant reads no other part of the state than these. -/
theorem StableInv.congr (inv : StableInv s) (mem : t.mem = s.mem := by simp) (blocks : t.blocks = s.blocks := by simp)
    (cp0 : t.cp0 = s.cp0 := by simp) (miIntr : t.miIntr = s.miIntr := by simp)
    (miMask : t.miMask = s.miMask := by simp) (hi : t.hi = s.hi := by simp) (lo : t.lo = s.lo := by simp)
    (params : t.params = s.params := by simp) : StableInv t := by
  have cop0 (r : Reg) : t.cop0 r = s.cop0 r := cop0_congr s t cp0 r
  have cause : t.cause = s.cause := cop0 _
  obtain ⟨memoryWf, blocksWf, aggregate, causeZero, hiWidth, loWidth, badVAddr, random, count⟩ := inv
  constructor <;> simp only [mem, blocks, cause, miIntr, miMask, hi, lo, params, cop0] <;> assumption

theorem StableInv.setHi (inv : StableInv s) (v : Word) : StableInv (s.setHi v) :=
  { inv with hi := trunc_trunc _ v }

theorem StableInv.setLo (inv : StableInv s) (v : Word) : StableInv (s.setLo v) :=
  { inv with lo := trunc_trunc _ v }

/-- Any COP0 register but Cause, BadVAddr and the two unused cells may take any value. -/
theorem StableInv.setCop0 (inv : StableInv s) {r : Reg} (free : r ∉ [1#5, 8#5, 9#5, 13#5]) (v : Word32) :
    StableInv (s.setCop0 r v) := by
  have other {q : Reg} (special : q ∈ [1#5, 8#5, 9#5, 13#5]) : (s.setCop0 r v).cop0 q = s.cop0 q :=
    cop0_setCop0_other s r q v fun same => free (same ▸ special)
  have cause : (s.setCop0 r v).cause = s.cause := other (by decide)
  exact {
    memory := inv.memory, blocks := inv.blocks, hi := inv.hi, lo := inv.lo
    aggregate := cause ▸ inv.aggregate
    causeZero := cause ▸ inv.causeZero
    badVAddr := (other (by decide)).trans inv.badVAddr
    random := (other (by decide)).trans inv.random
    count := (other (by decide)).trans inv.count }

theorem StableInv.setCause (inv : StableInv s) {v : Word32} (like : CauseLike s.cause v) :
    StableInv (s.setCop0 Cop0.cause v) := by
  have cause : (s.setCop0 Cop0.cause v).cause = v := cop0_setCop0_same s Cop0.cause v
  exact {
    memory := inv.memory, blocks := inv.blocks, hi := inv.hi, lo := inv.lo
    aggregate := cause.symm ▸ like.1.trans inv.aggregate
    causeZero := cause.symm ▸ like.2.trans inv.causeZero
    badVAddr := (cop0_setCop0_other s _ _ v (by decide)).trans inv.badVAddr
    random := (cop0_setCop0_other s _ _ v (by decide)).trans inv.random
    count := (cop0_setCop0_other s _ _ v (by decide)).trans inv.count }

/-- The zero bits of Cause are among those that a change of the aggregate leaves. -/
theorem StableInv.of_busEffect (inv : StableInv s) (effect : BusEffect s t) : StableInv t := by
  obtain ⟨frame, cause, memory, blocks, aggregate⟩ := effect
  have hi : t.hi = s.hi := frame.hi rfl
  have lo : t.lo = s.lo := frame.lo rfl
  have params : t.params = s.params := frame.params
  have causeZero : t.cause &&& 0x4FFF7883#32 = s.cause &&& 0x4FFF7883#32 := by
    have narrower := congrArg (· &&& 0x4FFF7883#32) cause
    simpa [BitVec.and_assoc] using narrower
  exact {
    memory := memory inv.memory
    blocks := blocks inv.blocks
    aggregate := aggregate inv.aggregate
    causeZero := causeZero.trans inv.causeZero
    hi := by rw [hi, params, inv.hi]
    lo := by rw [lo, params, inv.lo]
    badVAddr := (frame.cop0 _ (by decide)).trans inv.badVAddr
    random := (frame.cop0 _ (by decide)).trans inv.random
    count := (frame.cop0 _ (by decide)).trans inv.count }

theorem StableInv.exceptionEntry (inv : StableInv s) (code : BitVec 5) (ce : BitVec 2) (ret : Word) (inDelay : Bool) :
    StableInv (exceptionEntry code ce ret inDelay s) := by
  have written := ((inv.setCause (causeLike_entry s.cause code ce inDelay)).setCop0 (r := Cop0.epc) (by decide)
    (low32 (if inDelay then ret - 4#64 else ret))).setCop0 (r := Cop0.status) (by decide) (Status.setExl s.status true)
  exact written.congr (cp0 := rfl)

theorem StableInv.returnFromException (inv : StableInv s) : StableInv (returnFromException s) := by
  unfold Machine.returnFromException
  split
  · exact (inv.setCop0 (r := Cop0.status) (by decide) (Status.setErl s.status false)).congr
  · exact (inv.setCop0 (r := Cop0.status) (by decide) (Status.setExl s.status false)).congr

theorem StableInv.cop0Write (inv : StableInv s) (r : Reg) (v : Word32) : StableInv (cop0Write r v s) := by
  by_cases readOnly : r ∈ [1#5, 8#5, 15#5]
  · rwa [cop0Write_readOnly readOnly]
  by_cases count : r = 9#5
  · subst count
    rw [cop0Write_count]
    exact inv.congr (cp0 := rfl)
  by_cases compare : r = 11#5
  · subst compare
    have stored : StableInv (s.setCop0 11#5 v) := inv.setCop0 (by decide) v
    have cause : (s.setCop0 11#5 v).cause = s.cause := cop0_setCop0_other s _ _ v (by decide)
    exact stored.setCause (cause.symm ▸ causeLike_setTimer s.cause false)
  by_cases cause : r = 13#5
  · subst cause
    exact inv.setCause (causeLike_software s.cause v)
  have stored : r ∉ [1#5, 8#5, 9#5, 11#5, 13#5, 15#5] := by simp_all
  have free : r ∉ [1#5, 8#5, 9#5, 13#5] := by simp_all
  rw [cop0Write_stored stored]
  exact inv.setCop0 free v

theorem StableInv.setGpr (inv : StableInv s) (r : Reg) (v : Word) : StableInv (s.setGpr r v) :=
  inv.congr

theorem StableInv.draws (inv : StableInv s) (d : Nat) : StableInv { s with draws := d } :=
  inv.congr

theorem StableInv.branchIf (inv : StableInv s) (c : Bool) (a : Word) : StableInv (branchIf c a s) :=
  inv.congr

theorem StableInv.branchLikely (inv : StableInv s) (c : Bool) (a : Word) : StableInv (branchLikely c a s) :=
  inv.congr

/-! ### The phases of a step -/

theorem StableInv.exec {i : Instr} (inv : StableInv s) (next : exec i s = .next t) : StableInv t := by
  cases exec_effect next with
  | nothing => exact inv
  | gpr d r v => exact (inv.draws d).setGpr r v
  | hilo hi lo => exact (inv.setHi hi).setLo lo
  | hi v => exact inv.setHi v
  | lo v => exact inv.setLo v
  | jump c a => exact inv.branchIf c a
  | likely c a => exact inv.branchLikely c a
  | jumpLink r v c a => exact (inv.setGpr r v).branchIf c a
  | likelyLink r v c a => exact (inv.setGpr r v).branchLikely c a
  | eret => exact inv.returnFromException
  | exception code ce => exact inv.exceptionEntry code ce _ _
  | cop0 rt rd v => exact inv.cop0Write rd v
  | fpr32 d n v => exact inv.congr
  | fpr64 d n v =>
    exact (inv.draws d).congr
  | condition b => exact inv.congr
  | control rt n v => exact inv.congr
  | store u h k effect => exact inv.of_busEffect effect
  | conditional u v base rt off h effect =>
    exact ((inv.of_busEffect effect).setGpr rt v).congr
  | linked d pa v base rt =>
    have linked := ((inv.draws d).setGpr rt v).setCop0 (r := Cop0.llAddr) (by decide) (BitVec.ofNat 32 (pa / 16))
    exact linked.congr (cp0 := rfl)

/-- What an action of the environment changes, a bus write could change too (60_exceptions.md R740). -/
theorem busEffect_act (a : EnvAction) (s : State) : BusEffect s (a.act s) := by
  unfold EnvAction.act
  dsimp only
  split
  · exact busEffect_sync s s.mem a.regs (a.intr.getD s.miIntr) (a.mask.getD s.miMask) s.draws id
  case isFalse named =>
    simp only [Bool.or_eq_true, Option.isSome_iff_ne_none, not_or, not_not] at named
    obtain ⟨intr, mask⟩ := named
    rw [intr, mask]
    exact ⟨Frame.refl _ s, rfl, id, Blocks.wf_setRegs a.regs, id⟩

theorem StableInv.applyEnv (inv : StableInv s) : StableInv (applyEnv s) := by
  unfold Machine.applyEnv
  split
  · exact inv
  next a rest _ =>
    have queued : StableInv { s with env := rest } := inv.congr
    exact queued.of_busEffect (busEffect_act a _)

theorem StableInv.checkInterrupts (inv : StableInv s) : StableInv (checkInterrupts s) := by
  unfold Machine.checkInterrupts
  split
  · exact inv.exceptionEntry ..
  · exact inv

theorem StableInv.timerTick (inv : StableInv s) : StableInv (timerTick s) := by
  have ticked : StableInv { s with ticks := s.ticks + 1#64 } := inv.congr
  unfold Machine.timerTick
  split
  · exact ticked.setCause (causeLike_setTimer s.cause true)
  · exact ticked

theorem StableInv.fetch {w : Word32} (inv : StableInv s) (fetched : fetch s = .ok (w, t)) : StableInv t := by
  obtain ⟨d, rfl⟩ := fetch_state fetched
  exact inv.congr

/-- R271, R272: the resolution of the delayed branch leaves it absent or due, whatever it was. -/
theorem resolveBranch_due (s : State) : ∀ p, (resolveBranch s).pending = some p → p.countdown = .one := by
  unfold resolveBranch
  split
  case h_1 absent => simp [absent]
  · rintro _ ⟨⟩
    rfl
  · nofun

/-- Settles O18: every phase keeps the invariant but for the branch, and the last phase brings the branch in line. -/
theorem stepKeepsTheInvariant : Obligations.StepKeepsTheInvariant := by
  unfold Obligations.StepKeepsTheInvariant
  intro s t inv stepped
  obtain ⟨-, w, u, i, v, fetched, -, -, executed, rfl⟩ := step_next stepped
  have stable : StableInv s := ((inv_iff s).1 inv).1
  have prefetched : StableInv (prefetch s) := stable.applyEnv.checkInterrupts.timerTick
  have after : StableInv v := (prefetched.fetch fetched).exec executed
  exact (inv_iff _).2 ⟨after.congr,
    resolveBranch_due v⟩

/-- Settles O19: a construction writes canonical memory and blocks, and leaves Cause, HI, LO and the unused cells 0. -/
theorem resetMeetsTheInvariant : Obligations.ResetMeetsTheInvariant := by
  unfold Obligations.ResetMeetsTheInvariant
  have causeZero (b : Boot) : (State.ofBoot b).cause = 0#32 := rfl
  have constructed (b : Boot) : (State.ofBoot b).Inv := {
    memory := Memory.wf_setAll b.image Memory.wf_nil
    blocks := Blocks.wf_setRegs b.regs fun id => by cases id <;> exact Memory.wf_nil
    branch := nofun
    aggregate := (congrArg (bit · 10) (causeZero b)).trans (show false = aggregate 0#6 0#6 by decide)
    causeZero := by rw [causeZero b]; rfl
    hi := trunc_zero _
    lo := trunc_zero _
    badVAddr := rfl
    random := rfl
    count := rfl }
  exact ⟨constructed _, constructed⟩

end Sys2Proof.Machine
end

section
/-! Proofs about the writers of each piece of state (10_state.md), from what an instruction can do (`exec_effect`). -/

namespace Sys2Proof.Machine

variable {i : Instr} {s t : State}

/-! ### General registers (R44) -/

theorem gpr_of_exec (next : exec i s = .next t) {q : Reg} (other : gprDest i ≠ some q) : t.gpr q = s.gpr q := by
  have apart {r : Reg} (dest : gprDest i = some r) : q ≠ r := by
    rintro rfl
    exact other dest
  cases exec_effect next with
  | gpr d r v dest => exact gpr_setGpr_other _ r q v (apart dest)
  | jumpLink r v c a _ _ _ dest => exact (gpr_branchIf _ c a q).trans (gpr_setGpr_other s r q v (apart dest))
  | likelyLink r v c a _ _ _ dest => exact (gpr_branchLikely _ c a q).trans (gpr_setGpr_other s r q v (apart dest))
  | store u _ _ effect => exact effect.frame.gprs q List.not_mem_nil
  | conditional u v base rt off form effect =>
    have dest : gprDest i = some rt := by obtain rfl | rfl := form <;> rfl
    exact (gpr_setGpr_other u rt q v (apart dest)).trans (effect.frame.gprs q List.not_mem_nil)
  | linked d pa v base rt off form =>
    have dest : gprDest i = some rt := by obtain rfl | rfl := form <;> rfl
    exact gpr_setGpr_other _ rt q v (apart dest)
  | nothing => rfl
  | _ => exact gpr_congr s _ (by simp) q

/-- Settles O22: every effect but a write of the destination leaves the general registers alone. -/
theorem oneGeneralRegisterIsWritten : Obligations.OneGeneralRegisterIsWritten := by
  unfold Obligations.OneGeneralRegisterIsWritten
  exact fun i s t next q other => gpr_of_exec next other

/-! ### HI and LO (R46) -/

theorem hi_of_exec (next : exec i s = .next t) (other : writesHi i = false) : t.hi = s.hi := by
  cases exec_effect next with
  | hilo _ _ writer | hi _ writer => cases writer.symm.trans other
  | store u _ _ effect | conditional u _ _ _ _ _ effect => exact effect.frame.hi rfl
  | nothing => rfl
  | _ => simp

theorem lo_of_exec (next : exec i s = .next t) (other : writesLo i = false) : t.lo = s.lo := by
  cases exec_effect next with
  | hilo _ _ _ writer | lo _ writer => cases writer.symm.trans other
  | store u _ _ effect | conditional u _ _ _ _ _ effect => exact effect.frame.lo rfl
  | nothing => rfl
  | _ => simp

/-! ### FCSR (R115, R117) -/

theorem setFpControl_other {n : Reg} (other : n ≠ 31#5) (v : Word32) (s : State) : setFpControl n v s = s :=
  if_neg other

theorem fcr31_of_exec (next : exec i s = .next t) (notCtc1 : ∀ rt, i ≠ .ctc1 rt 31#5) :
    (isCompare i = false → t.fcr31 = s.fcr31) ∧ t.fcr31 &&& 0xFF7FFFFF#32 = s.fcr31 &&& 0xFF7FFFFF#32 := by
  have unchanged (same : t.fcr31 = s.fcr31) : (isCompare i = false → t.fcr31 = s.fcr31) ∧
      t.fcr31 &&& 0xFF7FFFFF#32 = s.fcr31 &&& 0xFF7FFFFF#32 := ⟨fun _ => same, congrArg (· &&& _) same⟩
  cases exec_effect next with
  | condition b compares =>
    exact ⟨fun other => (nomatch compares.symm.trans other), setBit_and s.fcr31 23 (by decide) b _ (by decide)⟩
  | control rt n v form =>
    have other : n ≠ 31#5 := fun same => notCtc1 rt (same ▸ form)
    rw [setFpControl_other other]
    exact ⟨fun _ => rfl, rfl⟩
  | store u _ _ effect | conditional u _ _ _ _ _ effect => exact unchanged (effect.frame.fcsr rfl)
  | nothing => exact unchanged rfl
  | _ => exact unchanged (by simp)

/-! ### The load-linked flag (R51) -/

theorem llbit_of_linked {base rt : Reg} {off : Half} (form : i = .ll base rt off ∨ i = .lld base rt off)
    (next : exec i s = .next t) : t.llbit = true := by
  obtain rfl | rfl := form <;>
  · obtain ⟨d, v, pa, rfl⟩ := loadLinked_next next
    rfl

theorem llbit_returnFromException (s : State) : (returnFromException s).llbit = false := by
  unfold returnFromException
  split <;> rfl

theorem llbit_of_unlinking {base rt : Reg} {off : Half}
    (form : i = .eret ∨ i = .sc base rt off ∨ i = .scd base rt off) (next : exec i s = .next t) : t.llbit = false := by
  obtain rfl | rfl | rfl := form
  · obtain ⟨-, returned⟩ := controlTransfer_next next
    exact Host.Outcome.next.inj returned ▸ llbit_returnFromException s
  all_goals
    obtain ⟨u, v, -, rfl⟩ := storeConditional_next next
    rfl

theorem llbit_of_exec (next : exec i s = .next t) (other : ∀ base rt off, i ≠ .ll base rt off ∧ i ≠ .lld base rt off ∧
    i ≠ .eret ∧ i ≠ .sc base rt off ∧ i ≠ .scd base rt off) : t.llbit = s.llbit := by
  cases exec_effect next with
  | eret form =>
    obtain ⟨-, -, notEret, -, -⟩ := other 0#5 0#5 0#16
    exact absurd form notEret
  | conditional u v base rt off form =>
    obtain ⟨-, -, -, notSc, notScd⟩ := other base rt off
    exact (form.elim notSc notScd).elim
  | linked d pa v base rt off form =>
    obtain ⟨notLl, notLld, -, -, -⟩ := other base rt off
    exact (form.elim notLl notLld).elim
  | store u _ _ effect => exact effect.frame.llbit rfl
  | nothing => rfl
  | _ => simp

/-- Settles O23, one register at a time. -/
theorem hiLoFcsrAndLlbitWriters : Obligations.HiLoFcsrAndLlbitWriters := by
  unfold Obligations.HiLoFcsrAndLlbitWriters
  intro i s t next
  exact ⟨hi_of_exec next, lo_of_exec next, fcr31_of_exec next, fun ⟨_, _, _, form⟩ => llbit_of_linked form next,
    fun ⟨_, _, _, form⟩ => llbit_of_unlinking form next, llbit_of_exec next⟩

/-! ### COP1 slots (R112, R114) -/

/-- The upper half of a slot. -/
def State.upper (s : State) (q : Reg) : Word32 := (s.slot q).extractLsb' 32 32

theorem upper_of_slot (q : Reg) (same : t.slot q = s.slot q) : t.upper q = s.upper q :=
  congrArg (BitVec.extractLsb' 32 32) same

theorem slot_setFpr32_other (s : State) {n q : Reg} (v : Word32) (other : q ≠ n) :
    (s.setFpr32 n v).slot q = s.slot q := by
  rw [State.setFpr32, slot_setSlot, if_neg other]

/-- R112: a 32-bit write keeps every upper half. -/
theorem upper_setFpr32 (s : State) (n : Reg) (v : Word32) (q : Reg) : (s.setFpr32 n v).upper q = s.upper q := by
  by_cases same : q = n
  · subst same
    rw [State.upper, State.setFpr32, slot_setSlot_same]
    exact BitVec.extractLsb'_append_eq_left
  · exact upper_of_slot q (slot_setFpr32_other s v same)

/-- R114: with FR = 0 a 64-bit write is two 32-bit writes. -/
theorem setFpr64_paired (paired : s.status.getLsbD 26 = false) (n : Reg) (v : Word) :
    s.setFpr64 n v = (s.setFpr32 n (v.setWidth 32)).setFpr32 (n + 1#5) (v.extractLsb' 32 32) :=
  if_neg (Bool.eq_false_iff.1 paired)

theorem slot_setFpr64_other (s : State) {n q : Reg} (v : Word) (other : q ≠ n)
    (unpaired : s.status.getLsbD 26 = true ∨ q ≠ n + 1#5) : (s.setFpr64 n v).slot q = s.slot q := by
  cases fr : s.status.getLsbD 26 with
  | true =>
    have whole : s.setFpr64 n v = s.setSlot n v := if_pos fr
    rw [whole, slot_setSlot, if_neg other]
  | false =>
    have odd : q ≠ n + 1#5 := unpaired.resolve_left (Bool.eq_false_iff.1 fr)
    rw [setFpr64_paired fr, slot_setFpr32_other _ _ odd, slot_setFpr32_other _ _ other]

theorem upper_setFpr64 (paired : s.status.getLsbD 26 = false) (n : Reg) (v : Word) (q : Reg) :
    (s.setFpr64 n v).upper q = s.upper q := by
  rw [setFpr64_paired paired, upper_setFpr32, upper_setFpr32]

theorem slot_of_exec (next : exec i s = .next t) {q : Reg} (other32 : fprDest32 i ≠ some q)
    (other64 : fprDest64 i ≠ some q)
    (unpaired : s.status.getLsbD 26 = true ∨ ∀ n, fprDest64 i = some n → q ≠ n + 1#5) : t.slot q = s.slot q := by
  cases exec_effect next with
  | fpr32 d n v dest =>
    refine slot_setFpr32_other _ v ?_
    rintro rfl
    exact other32 dest
  | fpr64 d n v dest =>
    refine slot_setFpr64_other { s with draws := d } v ?_ (unpaired.imp_right fun apart => apart n dest)
    rintro rfl
    exact other64 dest
  | store u _ _ effect | conditional u _ _ _ _ _ effect => exact effect.frame.slots q List.not_mem_nil
  | nothing => rfl
  | _ => exact slot_congr s _ (by simp) q

theorem upper_of_exec (next : exec i s = .next t) (q : Reg)
    (kept : fprDest64 i = none ∨ s.status.getLsbD 26 = false) : t.upper q = s.upper q := by
  cases exec_effect next with
  | fpr32 d n v => exact upper_setFpr32 _ n v q
  | fpr64 d n v dest =>
    have paired : s.status.getLsbD 26 = false := kept.resolve_left (dest ▸ nofun)
    exact upper_setFpr64 (s := { s with draws := d }) paired n v q
  | store u _ _ effect | conditional u _ _ _ _ _ effect =>
    exact upper_of_slot q (effect.frame.slots q List.not_mem_nil)
  | nothing => rfl
  | _ => exact upper_of_slot q (slot_congr s _ (by simp) q)

/-- Settles O24: a slot changes only by a write of its register or of the pair, and those keep the upper halves. -/
theorem fprWriters : Obligations.FprWriters := by
  unfold Obligations.FprWriters
  exact fun i s t next => ⟨fun q => slot_of_exec next, upper_of_exec next⟩

/-! ### COP0 registers (R52 to R58) -/

theorem cop0_exceptionEntry_other {r : Reg} (other : r ∉ [12#5, 13#5, 14#5]) (code : BitVec 5) (ce : BitVec 2)
    (ret : Word) (inDelay : Bool) (s : State) : (exceptionEntry code ce ret inDelay s).cop0 r = s.cop0 r :=
  (frame_exceptionEntry code ce ret inDelay s).cop0 r other

theorem cop0_returnFromException_other {r : Reg} (other : r ≠ 12#5) (s : State) :
    (returnFromException s).cop0 r = s.cop0 r := by
  unfold returnFromException
  split <;> exact cop0_setCop0_other s _ r _ other

theorem cop0_linkTo_other {r : Reg} (other : r ≠ 17#5) (pa : Nat) (s : State) : (linkTo pa s).cop0 r = s.cop0 r :=
  cop0_setCop0_other s _ r _ other

/-- R57, R500: the two registers that no write reaches. -/
theorem cop0Write_cop0_readOnly {q : Reg} (readOnly : q = 15#5 ∨ q = 8#5) (r : Reg) (v : Word32) (s : State) :
    (cop0Write r v s).cop0 q = s.cop0 q := by
  have notCompare : q ≠ 11#5 := by obtain rfl | rfl := readOnly <;> decide
  have notCause : q ≠ 13#5 := by obtain rfl | rfl := readOnly <;> decide
  by_cases unwritten : r ∈ [1#5, 8#5, 15#5]
  · rw [cop0Write_readOnly unwritten]
  by_cases count : r = 9#5
  · subst count
    rfl
  by_cases compare : r = 11#5
  · subst compare
    rw [cop0Write_compare, cop0_setCop0_other _ _ _ _ notCause, cop0_setCop0_other _ _ _ _ notCompare]
  by_cases cause : r = 13#5
  · subst cause
    rw [cop0Write_cause, cop0_setCop0_other _ _ _ _ notCause]
  have stored : r ∉ [1#5, 8#5, 9#5, 11#5, 13#5, 15#5] := by simp_all
  have apart : q ≠ r := by
    rintro rfl
    obtain rfl | rfl := readOnly <;> exact unwritten (by decide)
  rw [cop0Write_stored stored, cop0_setCop0_other _ _ _ _ apart]

theorem cop0_readOnly_of_exec {q : Reg} (readOnly : q = 15#5 ∨ q = 8#5) (next : exec i s = .next t) :
    t.cop0 q = s.cop0 q := by
  have unlisted (l : List Reg) (apart : 15#5 ∉ l ∧ 8#5 ∉ l) : q ∉ l := by
    obtain rfl | rfl := readOnly
    · exact apart.1
    · exact apart.2
  cases exec_effect next with
  | eret => exact cop0_returnFromException_other (List.ne_of_not_mem_cons (unlisted [12#5] (by decide))) s
  | exception code ce => exact cop0_exceptionEntry_other (unlisted _ (by decide)) ..
  | cop0 rt rd v => exact cop0Write_cop0_readOnly readOnly rd v s
  | store u _ _ effect | conditional u _ _ _ _ _ effect => exact effect.frame.cop0 q (unlisted _ (by decide))
  | linked d pa v base rt =>
    exact cop0_linkTo_other (List.ne_of_not_mem_cons (unlisted [17#5] (by decide))) pa _
  | nothing => rfl
  | _ => exact cop0_congr s _ (by simp) q

theorem cop0Write_ticks_other {r : Reg} (other : r ≠ 9#5) (v : Word32) (s : State) :
    (cop0Write r v s).ticks = s.ticks := by
  unfold cop0Write
  rw [if_neg (c := r = Cop0.count) other]
  repeat' split
  all_goals rfl

theorem ticks_of_exec (next : exec i s = .next t) :
    t.ticks = s.ticks ∨ ∃ rt, i = .mtc0 rt 9#5 ∨ i = .dmtc0 rt 9#5 := by
  cases exec_effect next with
  | cop0 rt rd v form =>
    by_cases count : rd = 9#5
    · subst count
      exact .inr ⟨rt, form⟩
    · exact .inl (cop0Write_ticks_other count v s)
  | store u _ _ effect | conditional u _ _ _ _ _ effect => exact .inl effect.frame.ticks
  | nothing => exact .inl rfl
  | _ => exact .inl (by simp)

/-- What an instruction that is no writer of COP0 leaves: all of it, but for the aggregate bit after a store. -/
theorem cop0_of_exec (next : exec i s = .next t)
    (other : ∀ a b c, i ≠ .mtc0 a b ∧ i ≠ .dmtc0 a b ∧ i ≠ .eret ∧ i ≠ .ll a b c ∧ i ≠ .lld a b c)
    (noTrap : isTrap i = false) (usable : usesCop1 i = true → s.status.getLsbD 29 = true) :
    (∀ r, r ≠ 13#5 → t.cop0 r = s.cop0 r) ∧ t.cause &&& 0xFFFFFBFF#32 = s.cause &&& 0xFFFFFBFF#32 ∧
      (isStore i = false → t.cause = s.cause) := by
  have unchanged (same : t.cp0 = s.cp0) : (∀ r, r ≠ 13#5 → t.cop0 r = s.cop0 r) ∧
      t.cause &&& 0xFFFFFBFF#32 = s.cause &&& 0xFFFFFBFF#32 ∧ (isStore i = false → t.cause = s.cause) := by
    have cop0 := cop0_congr s t same
    exact ⟨fun r _ => cop0 r, congrArg (· &&& _) (cop0 _), fun _ => cop0 _⟩
  have stored {u : State} (effect : BusEffect s u) (cp0 : t.cp0 = u.cp0) (writer : isStore i = true) :
      (∀ r, r ≠ 13#5 → t.cop0 r = s.cop0 r) ∧ t.cause &&& 0xFFFFFBFF#32 = s.cause &&& 0xFFFFFBFF#32 ∧
        (isStore i = false → t.cause = s.cause) := by
    have cop0 := cop0_congr u t cp0
    have cause : t.cause = u.cause := cop0 _
    exact ⟨fun r notCause => (cop0 r).trans (effect.frame.cop0 r (mt List.mem_singleton.1 notCause)),
      cause ▸ effect.cause, fun noStore => nomatch writer.symm.trans noStore⟩
  cases exec_effect next with
  | eret form =>
    obtain ⟨-, -, notEret, -, -⟩ := other 0#5 0#5 0#16
    exact absurd form notEret
  | exception code ce raised =>
    obtain trap | ⟨uses, unusable⟩ := raised
    · cases noTrap.symm.trans trap
    · cases (usable uses).symm.trans unusable
  | cop0 rt rd v form =>
    obtain ⟨notMtc0, notDmtc0, -, -, -⟩ := other rt rd 0#16
    exact (form.elim notMtc0 notDmtc0).elim
  | linked d pa v base rt off form =>
    obtain ⟨-, -, -, notLl, notLld⟩ := other base rt off
    exact (form.elim notLl notLld).elim
  | store u writer _ effect => exact stored effect rfl writer
  | conditional u v base rt off form effect =>
    exact stored effect rfl (by obtain rfl | rfl := form <;> rfl)
  | nothing => exact unchanged rfl
  | _ => exact unchanged (by simp)

/-- Settles O25: the read-only registers, the ticks, and what the instructions that are no writers of COP0 leave. -/
theorem cop0Writers : Obligations.Cop0Writers := by
  unfold Obligations.Cop0Writers
  intro i s t next
  refine ⟨⟨cop0_readOnly_of_exec (.inl rfl) next, cop0_readOnly_of_exec (.inr rfl) next⟩, fun other => ?_,
    cop0_of_exec next⟩
  refine (ticks_of_exec next).resolve_right fun ⟨rt, form⟩ => ?_
  obtain ⟨notMtc0, notDmtc0⟩ := other rt 9#5
  exact form.elim notMtc0 notDmtc0

/-- Settles O8: the tick adds one before the fetch, and of the instructions only a write of Count changes the ticks. -/
theorem ticksAdvanceByOne : Obligations.TicksAdvanceByOne := by
  unfold Obligations.TicksAdvanceByOne
  intro s t stepped
  obtain ⟨-, w, u, i, v, fetched, decoded, -, executed, rfl⟩ := step_next stepped
  have ticked : u.ticks = s.ticks + 1#64 := by
    obtain ⟨d, rfl⟩ := fetch_state fetched
    exact prefetch_ticks s
  rw [resolveBranch_ticks, ← ticked]
  refine (ticks_of_exec executed).imp_right fun ⟨rt, form⟩ => ⟨w, u, rt, fetched, ?_⟩
  obtain rfl | rfl := form
  · exact .inl decoded
  · exact .inr decoded

/-! ### Memory, devices and the environment (R742, R282) -/

theorem memory_of_exec (next : exec i s = .next t) (noStore : isStore i = false) :
    t.mem = s.mem ∧ t.blocks = s.blocks ∧ t.miIntr = s.miIntr ∧ t.miMask = s.miMask := by
  cases exec_effect next with
  | store u writer => cases writer.symm.trans noStore
  | conditional u v base rt off form =>
    have writer : isStore i = true := by obtain rfl | rfl := form <;> rfl
    cases writer.symm.trans noStore
  | nothing => exact ⟨rfl, rfl, rfl, rfl⟩
  | _ => simp

theorem fixed_of_exec (next : exec i s = .next t) :
    t.rom = s.rom ∧ t.params = s.params ∧ t.halted = s.halted ∧ t.env = s.env := by
  cases exec_effect next with
  | store u _ _ effect | conditional u _ _ _ _ _ effect =>
    exact ⟨effect.frame.rom, effect.frame.params, effect.frame.halted, effect.frame.env⟩
  | nothing => exact ⟨rfl, rfl, rfl, rfl⟩
  | _ => simp

/-! ### No instruction is refused -/

/-- The outcome is a next state or a halt. -/
def NotRefused (o : Result) : Prop := ∀ r, o ≠ .refused r

theorem notRefused_next (t : State) : NotRefused (.next t) := nofun

theorem notRefused_fault (f : Fault) : NotRefused (.fault f) := nofun

theorem notRefused_orFault {α : Type} (r : Except Fault α) {k : α → Result} (rest : ∀ a, NotRefused (k a)) :
    NotRefused (orFault r k) := by
  cases r with
  | ok a => exact rest a
  | error f => exact notRefused_fault f

theorem notRefused_withCop1 {o : Result} (rest : NotRefused o) : NotRefused (withCop1 s o) := by
  unfold withCop1
  split
  · exact rest
  · exact notRefused_next _

theorem notRefused_needPairs {ns : List Reg} {o : Result} (rest : NotRefused o) : NotRefused (needPairs ns s o) := by
  unfold needPairs
  split
  · exact notRefused_fault _
  · exact rest

theorem notRefused_controlTransfer {o : Result} (rest : NotRefused o) : NotRefused (controlTransfer s o) := by
  unfold controlTransfer
  split
  · exact notRefused_fault _
  · exact rest

theorem notRefused_trapIf (c : Bool) : NotRefused (trapIf c s) := by
  unfold trapIf
  split <;> exact notRefused_next _

theorem notRefused_divOverflowResult (lo : Word) : NotRefused (divOverflowResult lo s) := by
  unfold divOverflowResult
  split
  · exact notRefused_fault _
  · exact notRefused_next _

theorem notRefused_storeConditional (n : Nat) (base rt : Reg) (off : Half) :
    NotRefused (storeConditional n base rt off s) := by
  refine notRefused_orFault _ fun a => ?_
  dsimp only
  split <;> exact notRefused_next _

/-- Under the delay-slot check and the COP1 checks an instruction goes on to a next state, through at most two bus or
register reads that may halt. -/
theorem notRefused_exec (i : Instr) (s : State) : NotRefused (exec i s) := by
  cases i
  case j | jal | jr | jalr | eret | beq | bne | blez | bgtz | bltz | bgez | bltzal | bgezal | beql | bnel | blezl | bgtzl
      | bltzl | bgezl | bltzall | bgezall => exact notRefused_controlTransfer (notRefused_next _)
  case bc1f | bc1t | bc1fl | bc1tl => exact notRefused_controlTransfer (notRefused_withCop1 (notRefused_next _))
  case tge | tgeu | tlt | tltu | teq | tne | tgei | tgeiu | tlti | tltiu | teqi | tnei => exact notRefused_trapIf _
  case div | ddiv =>
    simp only [exec, execDiv, execDdiv]
    split
    · exact notRefused_next _
    · exact notRefused_divOverflowResult _
  case lb | lbu | lh | lhu | lw | lwu | ld | lwl | lwr | ldl | ldr | sb | sh | sw | sd | swl | swr | sdl | sdr | mfc0
      | dmfc0 => exact notRefused_orFault _ fun _ => notRefused_next _
  case ll | lld => exact notRefused_orFault _ fun _ => notRefused_orFault _ fun _ => notRefused_next _
  case sc | scd => exact notRefused_storeConditional _ _ _ _
  case lwc1 | swc1 => exact notRefused_withCop1 (notRefused_orFault _ fun _ => notRefused_next _)
  case ldc1 | sdc1 =>
    exact notRefused_withCop1 (notRefused_needPairs (notRefused_orFault _ fun _ => notRefused_next _))
  case dmfc1 | dmtc1 | movD | addD | subD | mulD | divD | sqrtD | absD | negD | cvtSD | cvtSL | cvtDS | cvtDW | cvtDL
      | cvtWD | roundWD | truncWD | ceilWD | floorWD | cvtLS | roundLS | truncLS | ceilLS | floorLS | cvtLD | roundLD
      | truncLD | ceilLD | floorLD | cFD | cUnD | cEqD | cUeqD | cOltD | cUltD | cOleD | cUleD | cSfD | cNgleD | cSeqD
      | cNglD | cLtD | cNgeD | cLeD | cNgtD =>
    exact notRefused_withCop1 (notRefused_needPairs (notRefused_next _))
  case mfc1 | mtc1 | cfc1 | ctc1 | movS | addS | subS | mulS | divS | sqrtS | absS | negS | cvtSW | cvtWS | roundWS
      | truncWS | ceilWS | floorWS | cFS | cUnS | cEqS | cUeqS | cOltS | cUltS | cOleS | cUleS | cSfS | cNgleS | cSeqS
      | cNglS | cLtS | cNgeS | cLeS | cNgtS => exact notRefused_withCop1 (notRefused_next _)
  all_goals exact notRefused_next _

/-- Settles O26: a store alone reaches memory and the devices, and no meaning refuses. -/
theorem memoryWriters : Obligations.MemoryWriters := by
  unfold Obligations.MemoryWriters
  exact ⟨fun i s t next => ⟨memory_of_exec next, fixed_of_exec next⟩, notRefused_exec⟩

/-! ### pc and pending (R49, R50) -/

/-- Settles O27: of the effects only jumps, ERET and exception entry write pc or pending. -/
theorem pcAndPendingWriters : Obligations.PcAndPendingWriters := by
  unfold Obligations.PcAndPendingWriters
  intro i s t next noTransfer noTrap usable
  cases exec_effect next with
  | jump _ _ transfer | likely _ _ transfer | jumpLink _ _ _ _ transfer | likelyLink _ _ _ _ transfer =>
    cases transfer.symm.trans noTransfer
  | eret form =>
    subst form
    cases noTransfer
  | exception code ce raised =>
    obtain trap | ⟨uses, unusable⟩ := raised
    · cases noTrap.symm.trans trap
    · cases (usable uses).symm.trans unusable
  | store u _ _ effect | conditional u _ _ _ _ _ effect => exact ⟨effect.frame.pc rfl, effect.frame.pending rfl⟩
  | nothing => exact ⟨rfl, rfl⟩
  | _ => simp

end Sys2Proof.Machine
end

section
/-! Proofs about one step and about the driver (40_cycle.md R240, R261, R280). -/

namespace Sys2Proof.Machine

/-! ### Halting (R280) -/

theorem step_of_halted {s : State} {f : Fault} (halted : s.halted = some f) : step s = .fault f := by
  rw [step, halted]

theorem tick_of_halted {s : State} (halted : s.halted.isSome = true) (n : Nat) : tick n s = s := by
  cases n with
  | zero => rfl
  | succ n => exact if_pos halted

/-- R260: ticks compose; after an early stop both sides stand still. -/
theorem tick_add (m n : Nat) (s : State) : tick (m + n) s = tick n (tick m s) := by
  induction m generalizing s with
  | zero => rw [Nat.zero_add, tick]
  | succ m ih =>
    by_cases halted : s.halted.isSome = true
    · rw [tick_of_halted halted, tick_of_halted halted, tick_of_halted halted]
    · rw [Nat.succ_add, tick, tick, if_neg halted, if_neg halted]
      exact ih (stepOrHalt s)

/-- Settles O7: a halted state faults and ticks to itself, and ticks compose by induction on the first count. -/
theorem haltedIsAbsorbing : Obligations.HaltedIsAbsorbing := by
  unfold Obligations.HaltedIsAbsorbing
  refine ⟨fun s f halted => ⟨step_of_halted halted, tick_of_halted ?_⟩, tick_add⟩
  rw [halted]
  rfl

/-! ### Words that do not run (R240, R241) -/

section fetched
variable {s t : State} {w : Word32}

/-- A step that fetches a word ends as the phases after the fetch end. -/
theorem step_of_runWord_fault {f : Fault} {u : State} (running : s.halted = none)
    (fetched : fetch (prefetch s) = .ok (w, t)) (halts : runWord w t = .fault (f, u)) : step s = .fault f := by
  rw [step, running]
  simp only [cycle, fetched, halts]

theorem step_of_miss {m : Miss} (running : s.halted = none) (fetched : fetch (prefetch s) = .ok (w, t))
    (miss : decode w = .error m) : step s = .fault (.unimplemented w) := by
  refine step_of_runWord_fault running fetched (u := t) ?_
  simp only [runWord, miss]

theorem step_of_not_implemented {i : Instr} (running : s.halted = none) (fetched : fetch (prefetch s) = .ok (w, t))
    (decodes : decode w = .ok i) (outside : implemented t.params i = false) :
    step s = .fault (.unimplemented w) := by
  refine step_of_runWord_fault running fetched (u := t) ?_
  simp only [runWord, decodes, outside, Bool.false_eq_true, if_false]

end fetched

theorem implemented_nop (p : Params) : implemented p .nop = true := rfl

/-- Whether the parameter of the row's gate admits it. -/
def admits (p : Params) : Gate → Bool
  | .always => true
  | .trap => p.trapInsns == .raise
  | .tlb => p.tlbOps == .nop

theorem implemented_eq (p : Params) (i : Instr) :
    implemented p i = (i == .nop || (!p.excluded.contains i.mnemonic && admits p (gate i))) := by
  unfold implemented admits
  cases gate i <;> rfl

theorem implemented_of_excluded {p : Params} {i : Instr} (notNop : i ≠ .nop) (excluded : i.mnemonic ∈ p.excluded) :
    implemented p i = false := by
  rw [implemented_eq, beq_eq_false_iff_ne.2 notNop, List.contains_iff_mem.2 excluded]
  rfl

theorem implemented_of_not_admitted {p : Params} {i : Instr} (notNop : i ≠ .nop) (shut : admits p (gate i) = false) :
    implemented p i = false := by
  rw [implemented_eq, beq_eq_false_iff_ne.2 notNop, shut, Bool.and_false]
  rfl

theorem gate_of_trap {i : Instr} (trap : isTrap i = true) : i ≠ .nop ∧ gate i = .trap := by
  cases i
  case syscall | brk | tge | tgeu | tlt | tltu | teq | tne | tgei | tgeiu | tlti | tltiu | teqi | tnei =>
    exact ⟨nofun, rfl⟩
  all_goals cases trap

theorem admits_of_all {p : Params} (raise : p.trapInsns = .raise) (nop : p.tlbOps = .nop) (g : Gate) :
    admits p g = true := by
  cases g
  · rfl
  · exact beq_iff_eq.2 raise
  · exact beq_iff_eq.2 nop

/-- Settles O5: the step's answer for a word that does not run, and the rows that list and parameters leave out. -/
theorem undecodableWordHalts : Obligations.UndecodableWordHalts := by
  unfold Obligations.UndecodableWordHalts
  refine ⟨fun s t w running fetched => ⟨fun m => step_of_miss running fetched,
    fun i => step_of_not_implemented running fetched⟩, implemented_nop, fun p i => implemented_of_excluded,
    fun p i trap halt => ?_, fun p halt i tlb => ?_, fun p i excluded raise nop => ?_⟩
  · obtain ⟨notNop, trapGate⟩ := gate_of_trap trap
    exact implemented_of_not_admitted notNop (by rw [trapGate, admits, halt]; rfl)
  · have shut : admits p .tlb = false := by rw [admits, halt]; rfl
    simp only [List.mem_cons, List.not_mem_nil, or_false] at tlb
    obtain rfl | rfl | rfl | rfl := tlb <;> exact implemented_of_not_admitted nofun shut
  · rw [implemented_eq, excluded, admits_of_all raise nop]
    exact Bool.or_true _

/-! ### A word that runs (R261, R264, R271) -/

theorem decode_of_decodeBytes {b0 b1 b2 b3 : Byte} {i : Instr} (decodes : decodeBytes [b0, b1, b2, b3] = .ok (i, [])) :
    decode (wordOfBytes b0 b1 b2 b3) = .ok i := by
  cases word : decode (wordOfBytes b0 b1 b2 b3) with
  | error m =>
    simp only [decodeBytes, word] at decodes
    cases decodes
  | ok j =>
    simp only [decodeBytes, word] at decodes
    cases decodes
    rfl

/-- Settles O6: the fetch gives the word of the four bytes, and the step is the phases after it. -/
theorem stepRunsTheDecodedInstruction : Obligations.StepRunsTheDecodedInstruction := by
  unfold Obligations.StepRunsTheDecodedInstruction
  intro s pa i running alignedPc access decodes admitted
  have fetched := fetch_memory alignedPc access
  rw [low32_readBE] at fetched
  have admitted' : implemented (prefetch s).params i = true := (prefetch_params s).symm ▸ admitted
  obtain ⟨next, fault, refused⟩ := step_of_fetch running fetched (decode_of_decodeBytes decodes) admitted'
  refine ⟨fun t executed => ⟨fun absent => ?_, fun a two => ?_, fun a one => ?_⟩, fault, refused⟩
  · rw [next t executed, resolveBranch_none absent]
  · rw [next t executed, resolveBranch_two two]
  · rw [next t executed, resolveBranch_one one]

end Sys2Proof.Machine
end

section
/-! Proofs about system calls, traps and the return from an exception (44_cop0_system.md R510, R535 to R548). -/

namespace Sys2Proof.Machine

/-- The outcome is exception entry for the running instruction, with CE 0. -/
def Raises (o : Result) (s : State) (code : BitVec 5) : Prop :=
  ∃ t, o = .next t ∧ EnteredException code 0#2 (s.pc - 4#64) s.pending.isSome s t

theorem raises_raiseExc (code : BitVec 5) (s : State) : Raises (raiseExc code 0#2 s) s code :=
  ⟨_, rfl, enteredException_exceptionEntry _ _ _ _ s⟩

/-- R537 to R548: a trap is taken exactly on its condition. -/
theorem trapIf_cases {c d : Bool} (condition : c = d) (s : State) :
    (d = true → Raises (trapIf c s) s 13#5) ∧ (d = false → trapIf c s = .next s) := by
  subst condition
  constructor <;> rintro rfl
  · exact raises_raiseExc _ s
  · rfl

section conditions
variable (x y : Word)

theorem slt_eq_decide_lt : x.slt y = decide (x.toInt < y.toInt) := BitVec.slt_eq_decide

theorem ult_eq_decide_lt : x.ult y = decide (x.toNat < y.toNat) := BitVec.ult_eq_decide

theorem not_slt_eq_decide_le : (!x.slt y) = decide (y.toInt ≤ x.toInt) := by
  rw [slt_eq_decide_lt, ← decide_not, decide_eq_decide, Int.not_lt]

theorem not_ult_eq_decide_le : (!x.ult y) = decide (y.toNat ≤ x.toNat) := by
  rw [ult_eq_decide_lt, ← decide_not, decide_eq_decide, Nat.not_lt]

end conditions

/-- Settles O12: SYSCALL and BREAK raise, and each trap row raises on the comparison of its numbers. -/
theorem systemCallsAndTraps : Obligations.SystemCallsAndTraps := by
  unfold Obligations.SystemCallsAndTraps
  intro s rs rt code imm c x y z enters
  refine ⟨raises_raiseExc _ s, raises_raiseExc _ s, ?_⟩
  simp only [List.forall_mem_cons]
  exact ⟨trapIf_cases (not_slt_eq_decide_le x y) s, trapIf_cases (not_ult_eq_decide_le x y) s,
    trapIf_cases (slt_eq_decide_lt x y) s, trapIf_cases (ult_eq_decide_lt x y) s, trapIf_cases rfl s,
    trapIf_cases (bne_eq_decide x y) s, trapIf_cases (not_slt_eq_decide_le x z) s,
    trapIf_cases (not_ult_eq_decide_le x z) s, trapIf_cases (slt_eq_decide_lt x z) s,
    trapIf_cases (ult_eq_decide_lt x z) s, trapIf_cases rfl s, trapIf_cases (bne_eq_decide x z) s,
    List.forall_mem_nil _⟩

/-! ### ERET (R510) -/

theorem exec_eret {s : State} (free : NotInDelaySlot s) : exec .eret s = .next (returnFromException s) :=
  controlTransfer_free free _

/-- The return from the handler of an error. -/
theorem returnFromException_erl {s : State} (erl : s.status.getLsbD 2 = true) : returnFromException s =
    { s.setCop0 Cop0.status (Status.setErl s.status false) with
      pc := (s.cop0 30#5).signExtend 64, llbit := false } := if_pos erl

/-- The return from the handler of an exception. -/
theorem returnFromException_exl {s : State} (erl : s.status.getLsbD 2 = false) : returnFromException s =
    { s.setCop0 Cop0.status (Status.setExl s.status false) with
      pc := (s.cop0 14#5).signExtend 64, llbit := false } := if_neg (Bool.eq_false_iff.1 erl)

theorem frame_return (s : State) (v : Word32) (a : Word) :
    Frame { cop0 := [12#5], llbit := true, control := true } s
      { s.setCop0 Cop0.status v with pc := a, llbit := false } :=
  ((frame_setCop0 s Cop0.status v List.mem_cons_self).trans (frame_pc _ a rfl)).trans (frame_llbit _ false rfl)

theorem frame_returnFromException (s : State) :
    Frame { cop0 := [12#5], llbit := true, control := true } s (returnFromException s) := by
  unfold returnFromException
  split <;> exact frame_return s _ _

theorem status_returnFromException_erl {s : State} (erl : s.status.getLsbD 2 = true) :
    (returnFromException s).status = s.status &&& 0xFFFFFFFB#32 := by
  rw [returnFromException_erl erl]
  exact (cop0_setCop0_same s Cop0.status _).trans (setBit_false s.status 2)

theorem status_returnFromException_exl {s : State} (erl : s.status.getLsbD 2 = false) :
    (returnFromException s).status = s.status &&& 0xFFFFFFFD#32 := by
  rw [returnFromException_exl erl]
  exact (cop0_setCop0_same s Cop0.status _).trans (setBit_false s.status 1)

/-- Settles O14, for the return from an error and from an exception. -/
theorem eretReturns : Obligations.EretReturns := by
  unfold Obligations.EretReturns
  intro s free
  rw [exec_eret free]
  refine completes_next (frame_returnFromException s) ⟨llbit_returnFromException s, ?_, fun erl => ?_, fun erl => ?_⟩
  · rw [returnFromException_pending]
    exact free
  · refine ⟨?_, status_returnFromException_erl erl⟩
    rw [returnFromException_erl erl]
  · refine ⟨?_, status_returnFromException_exl erl⟩
    rw [returnFromException_exl erl]

/-- R510 after R710: with ERL = 0 ERET resumes at the EPC that exception entry has written. -/
theorem eret_after_exceptionEntry {s : State} (erl : s.status.getLsbD 2 = false) (code : BitVec 5) (ce : BitVec 2)
    (ret : Word) (inDelay : Bool) : ∃ t, exec .eret (exceptionEntry code ce ret inDelay s) = .next t ∧
      t.pc = (low32 (if inDelay then ret - 4#64 else ret)).signExtend 64 ∧ t.status.getLsbD 1 = false ∧
      t.pending = none := by
  have erl' : (exceptionEntry code ce ret inDelay s).status.getLsbD 2 = false := by
    rw [exceptionEntry_status, Status.setExl, getLsbD_setBit _ _ (by decide), if_neg (by decide), erl]
  refine ⟨_, exec_eret (exceptionEntry_pending s code ce ret inDelay), ?_, ?_, ?_⟩
  · rw [returnFromException_exl erl', ← exceptionEntry_epc code ce ret inDelay s]
    rfl
  · rw [status_returnFromException_exl erl', BitVec.getLsbD_and, show (0xFFFFFFFD#32).getLsbD 1 = false by decide,
      Bool.and_false]
  · rw [returnFromException_pending, exceptionEntry_pending]

/-- Settles O15: the low half of a sign-extended address is the address, and 4 below it in a delay slot. -/
theorem exceptionReturnsToItsInstruction : Obligations.ExceptionReturnsToItsInstruction := by
  unfold Obligations.ExceptionReturnsToItsInstruction
  intro s code ce a erl
  have ordinary := eret_after_exceptionEntry erl code ce (sext32 a) false
  have delayed := eret_after_exceptionEntry erl code ce (sext32 a) true
  simp only [if_true, Bool.false_eq_true, if_false, low32_sub, low32_sext32] at ordinary delayed
  exact ⟨ordinary, delayed⟩

end Sys2Proof.Machine
end

section
/-! Proofs about the state after construction (70_reset_and_hazards.md R770 to R775). -/

namespace Sys2Proof.Machine

theorem Memory.setAll_append (m : Memory) (l k : List (Nat × Byte)) :
    m.setAll (l ++ k) = (m.setAll l).setAll k := List.foldl_append

/-- A byte after stores that leave it alone. -/
theorem Memory.byte_setAll_other {m : Memory} (wf : m.wf) {l : List (Nat × Byte)} {a : Nat}
    (apart : ∀ c ∈ l, c.1 ≠ a) : (m.setAll l).byte a = m.byte a := by
  induction l generalizing m with
  | nil => rfl
  | cons c l ih =>
    obtain ⟨first, rest⟩ := List.forall_mem_cons.1 apart
    exact (ih (Memory.wf_set _ _ wf) rest).trans (by rw [Memory.byte_set _ _ wf, if_neg first.symm])

/-- The last store to an address counts. -/
theorem Memory.byte_setAll_last {m : Memory} (wf : m.wf) {l : List (Nat × Byte)} (c : Nat × Byte)
    (apart : ∀ d ∈ l, d.1 ≠ c.1) : (m.setAll (c :: l)).byte c.1 = c.2 := by
  have stored : (m.set c.1 c.2).byte c.1 = c.2 := by rw [Memory.byte_set _ _ wf, if_pos rfl]
  exact (Memory.byte_setAll_other (Memory.wf_set _ _ wf) apart).trans stored

/-- The last change of a byte of a block counts. -/
theorem Blocks.byte_setRegs_last {bs : Blocks} (wf : ∀ id, (bs.get id).wf) {l : List RegByte} (r : RegByte)
    (apart : ∀ q ∈ l, ¬ (q.id = r.id ∧ q.off = r.off)) : ((bs.setRegs (r :: l)).get r.id).byte r.off = r.val := by
  refine Blocks.byte_setRegs (r :: l) wf _ _ _ (fun q member id off => ?_) ⟨r, List.mem_cons_self, rfl, rfl⟩
  obtain rfl | rest := List.mem_cons.1 member
  · rfl
  · exact absurd ⟨id, off⟩ (apart q rest)

theorem Blocks.get_blank (id : DeviceId) : Blocks.get (Vector.replicate 10 []) id = [] := Vector.getElem_replicate _

theorem Blocks.wf_blank (id : DeviceId) : (Blocks.get (Vector.replicate 10 []) id).wf := by
  rw [Blocks.get_blank]
  exact Memory.wf_nil

theorem slot_ofBoot (b : Boot) (n : Reg) : (State.ofBoot b).slot n = 0#64 := Vector.getElem_replicate _

/-- The constructed COP0 file is three writes over blank cells. -/
theorem cop0_ofBoot (b : Boot) (r : Reg) : (State.ofBoot b).cop0 r =
    if r = 12#5 then b.status else if r = 15#5 then b.prid else if r = 16#5 then b.config else 0#32 := by
  have written : (State.ofBoot b).cop0 r = (((({ State.ofBoot b with cp0 := Vector.replicate 32 0#32 } : State).setCop0
      12#5 b.status).setCop0 15#5 b.prid).setCop0 16#5 b.config).cop0 r := rfl
  have blank : ({ State.ofBoot b with cp0 := Vector.replicate 32 0#32 } : State).cop0 r = 0#32 :=
    Vector.getElem_replicate _
  rw [written, cop0_setCop0, cop0_setCop0, cop0_setCop0, blank]
  by_cases status : r = 12#5
  · subst status
    rfl
  by_cases prid : r = 15#5
  · subst prid
    rfl
  rw [if_neg status, if_neg status, if_neg prid, if_neg prid]

theorem gpr_ofBoot (b : Boot) (r : Reg) : (State.ofBoot b).gpr r =
    if r = 0#5 then 0#64 else b.gpr[r.toNat]'(by have := r.isLt; omega) := rfl

/-- Settles O20: a construction writes the boot record's values and bytes over blank state. -/
theorem resetValues : Obligations.ResetValues := by
  unfold Obligations.ResetValues
  refine ⟨fun b => ⟨gpr_ofBoot b, rfl, rfl, rfl, rfl, rfl, rfl, rfl, rfl, slot_ofBoot b, cop0_ofBoot b,
    fun a apart => Memory.byte_setAll_other Memory.wf_nil apart, ?_, rfl, rfl, rfl, ?_, ?_⟩, rfl, rfl, rfl, rfl, rfl, rfl,
    rfl, rfl⟩
  · intro before c after image apart
    have bytes : (State.ofBoot b).mem = (Memory.setAll [] before).setAll (c :: after) := by
      rw [← Memory.setAll_append, ← image]
      rfl
    rw [bytes]
    exact Memory.byte_setAll_last (Memory.wf_setAll before Memory.wf_nil) c apart
  · intro id o apart
    refine (Blocks.byte_setRegs_other b.regs Blocks.wf_blank id o apart).trans ?_
    rw [Blocks.get_blank]
    rfl
  · intro before r after regs apart
    have bytes : (State.ofBoot b).blocks = Blocks.setRegs (Blocks.setRegs (Vector.replicate 10 []) before)
        (r :: after) := by
      rw [← Blocks.setRegs_append, ← regs]
      rfl
    rw [bytes]
    exact Blocks.byte_setRegs_last (Blocks.wf_setRegs before Blocks.wf_blank) r apart

end Sys2Proof.Machine
end


section
/-! Proofs about the bus (20_memory.md R150 to R176): the checks of an access, then reads and writes of every kind of
row, and an access made byte by byte. -/

namespace Sys2Proof.Machine

/-! ### The checks of an access (R161, R172) -/

section checks
variable {s : State} {n pa : Nat} {va v : Word} {row : Region} {f : Fault}

theorem access_misaligned (misaligned : va.toNat % n ≠ 0) (halt : s.params.misaligned = .halt) :
    access n va s = .error (.misaligned va n) := by
  simp [access, aligned, misaligned, halt]

theorem access_of_aligned (ok : va.toNat % n = 0 ∨ s.params.misaligned = .bytewise) :
    (!aligned n va && s.params.misaligned == .halt) = false := by
  obtain even | bytewise := ok
  · simp [aligned, even]
  · simp [bytewise]

variable (ok : va.toNat % n = 0 ∨ s.params.misaligned = .bytewise)
include ok

theorem access_unmapped (unmapped : translateAddr va = .error f) : access n va s = .error f := by
  simp [access, access_of_aligned ok, unmapped]

variable (mapped : translateAddr va = .ok pa)
include mapped

theorem access_no_row (none : route s.params.physMap pa = none) : access n va s = .error (.unmappedPhysical pa) := by
  simp [access, access_of_aligned ok, mapped, none]

variable (routed : route s.params.physMap pa = some row)
include routed

theorem access_in_row (inside : pa + n - 1 ≤ row.last) : access n va s = .ok ⟨pa, row, aligned n va⟩ := by
  simp [access, access_of_aligned ok, mapped, routed, inside]

theorem access_past_row (whole : ∀ id len, row.kind = .device id len → va.toNat % n ≠ 0)
    (past : row.last < pa + n - 1) : access n va s = .error (.unmappedPhysical (pa + n - 1)) := by
  have checked : ¬ (pa + n - 1 ≤ row.last ∨ (aligned n va && isDeviceKind row.kind) = true) := by
    rintro (inside | device)
    · omega
    · obtain ⟨even, device⟩ := Bool.and_eq_true_iff.1 device
      cases kind : row.kind with
      | memory => simp [kind, isDeviceKind] at device
      | rom => simp [kind, isDeviceKind] at device
      | device id len => exact whole id len kind ((aligned_iff n va).1 even)
  simp only [access, access_of_aligned ok, mapped, routed, checked, Bool.false_eq_true, if_false]

end checks

theorem base_le_of_route {m : List Region} {pa : Nat} {row : Region} (routed : route m pa = some row) :
    row.base ≤ pa ∧ pa ≤ row.last := by
  have window := List.find?_some routed
  simpa [inWindow] using window

/-! ### The accesses that halt -/

section halts
variable {s : State} {n : Nat} {va : Word} {f : Fault} {a : Access}

theorem load_of_access (checked : access n va s = .ok a) : load n va s = readAt n a s := by simp [load, checked]

theorem load_of_access_error (halts : access n va s = .error f) : load n va s = .error f := by simp [load, halts]

theorem store_of_access_error (v : Word) (halts : access n va s = .error f) : store n va v s = .error f := by
  simp [store, storeAccess, halts]

theorem store_of_access_rom (v : Word) (checked : access n va s = .ok a) (rom : a.row.kind = .rom) :
    store n va v s = .error (.readOnlyWrite a.pa) := by
  simp [store, storeAccess, checked, rom]

theorem store_of_access (v : Word) (checked : access n va s = .ok a) (writable : a.row.kind ≠ .rom) :
    store n va v s = .ok (writeAt n a v s) := by
  simp [store, storeAccess, checked, writable]

theorem readAt_rom (rom : a.row.kind = .rom) (inside : a.pa - a.row.base + n ≤ s.rom.length) :
    readAt n a s = .ok (romBE s.rom (a.pa - a.row.base) n, s) := by
  simp [readAt, rom, inside]

theorem readAt_rom_missing (rom : a.row.kind = .rom) (missing : s.rom.length < a.pa - a.row.base + n) :
    readAt n a s = .error (.unmappedPhysical (romMissing a s.rom.length)) := by
  have outside : ¬ a.pa - a.row.base + n ≤ s.rom.length := by omega
  simp [readAt, rom, outside]

theorem fetch_misaligned (odd : s.pc.toNat % 4 ≠ 0) : fetch s = .error (.misaligned s.pc 4) := by
  simp [fetch, aligned, odd]

theorem fetch_of_load_error (even : s.pc.toNat % 4 = 0) (halts : load 4 s.pc s = .error f) : fetch s = .error f := by
  simp [fetch, aligned, even, halts]

end halts

/-- Settles O39: each halt is the one of the access's checks, but for a ROM row, where the read and the write have
checks of their own. -/
theorem accessHalts : Obligations.AccessHalts := by
  unfold Obligations.AccessHalts
  intro s n va v _ halts
  have both {f : Fault} (error : access n va s = .error f) : halts f :=
    ⟨load_of_access_error error, store_of_access_error v error⟩
  refine ⟨fun odd halt => both (access_misaligned odd halt), fun ok => ⟨fun f unmapped =>
    both (access_unmapped ok unmapped), fun pa mapped => ⟨fun none => both (access_no_row ok mapped none),
    fun row routed => ⟨fun whole past => both (access_past_row ok mapped routed whole past), fun rom inside => ?_⟩⟩⟩,
    fetch_misaligned, fun even f => fetch_of_load_error even⟩
  have checked := access_in_row ok mapped routed inside
  refine ⟨store_of_access_rom v checked rom, fun even missing => ?_, fun odd missing => ?_⟩
  all_goals rw [load_of_access checked, readAt_rom_missing rom missing, romMissing]
  · rw [(aligned_iff n va).2 even, if_pos rfl]
  · rw [Bool.eq_false_iff.2 (mt (aligned_iff n va).1 odd), if_neg Bool.false_ne_true]

/-! ### Values in big-endian order (R171) -/

section values
variable {n : Nat}

theorem bytesBE_one (f : Nat → Byte) (a : Nat) : bytesBE f a 1 = (f a).setWidth 64 := by
  simp [bytesBE]

theorem bytesBE_high (fits : n ≤ 8) (f : Nat → Byte) (a j : Nat) (high : 8 * n ≤ j) :
    (bytesBE f a n).getLsbD j = false := by
  rw [getLsbD_bytesBE f a n fits, decide_eq_false (by omega), Bool.false_and]

/-- R164: a 32-bit register read whole. -/
theorem bytesBE_regByte (w : Word32) (f : Nat → Byte) (a : Nat) (bytes : ∀ k, k < 4 → f (a + k) = regByte w k) :
    bytesBE f a 4 = w.setWidth 64 := by
  apply BitVec.eq_of_getLsbD_eq
  intro i _
  rw [getLsbD_bytesBE f a 4 (by decide), bytes _ (by omega), regByte, BitVec.getLsbD_extractLsb',
    BitVec.getLsbD_setWidth]
  by_cases low : i < 8 * 4
  · have position : 8 * (3 - (4 - 1 - i / 8)) + i % 8 = i := by omega
    have inByte : i % 8 < 8 := by omega
    have inWord : i < 64 := by omega
    simp [low, position, inByte, inWord]
  · have beyond : w.getLsbD i = false := BitVec.getLsbD_of_ge _ _ (by omega)
    simp [low, beyond]

theorem byteBE_lowBytes {k : Nat} (fits : n ≤ 8) (inside : k < n) (v : Word) :
    byteBE n k (lowBytes n v) = byteBE n k v := by
  apply BitVec.eq_of_getLsbD_eq
  intro i hi
  have low : 8 * (n - 1 - k) + i < 8 * n := by omega
  rw [byteBE, byteBE, BitVec.getLsbD_extractLsb', BitVec.getLsbD_extractLsb', getLsbD_lowBytes n fits,
    decide_eq_true low, Bool.true_and]

theorem lowBytes_eq_ofNat (fits : n ≤ 8) (v : Word) : lowBytes n v = BitVec.ofNat 64 (v.toNat % 2 ^ (8 * n)) := by
  apply BitVec.eq_of_getLsbD_eq
  intro i hi
  rw [getLsbD_lowBytes n fits, BitVec.getLsbD_ofNat, Nat.testBit_mod_two_pow, decide_eq_true hi, Bool.true_and]
  rfl

/-- A byte is the low byte of the word that holds it. -/
theorem lowBytes_byte (b : Byte) : lowBytes 1 (b.setWidth 64) = b.setWidth 64 := by
  apply BitVec.eq_of_getLsbD_eq
  intro i hi
  rw [getLsbD_lowBytes 1 (by decide), BitVec.getLsbD_setWidth]
  by_cases low : i < 8 * 1
  · simp [low]
  · simp [BitVec.getLsbD_of_ge b i (by omega)]

end values

/-! ### Addresses next to a mapped one -/

/-- R150: within one segment the physical addresses follow the virtual ones. -/
theorem translateAddr_add {va : Word} {pa k : Nat} (mapped : translateAddr va = .ok pa) (small : pa + k < 2 ^ 29) :
    translateAddr (va + BitVec.ofNat 64 k) = .ok (pa + k) := by
  have sum : (va + BitVec.ofNat 64 k).toNat % 2 ^ 32 = (va.toNat % 2 ^ 32 + k) % 2 ^ 32 := by
    rw [BitVec.toNat_add, BitVec.toNat_ofNat]
    omega
  by_cases user : va.toNat % 2 ^ 32 < 0x80000000
  · simp [translateAddr_user user] at mapped
  by_cases kseg0 : va.toNat % 2 ^ 32 < 0xA0000000
  · rw [translateAddr_kseg0 (by omega) kseg0, Except.ok.injEq] at mapped
    have next : va.toNat % 2 ^ 32 + k < 0xA0000000 := by omega
    rw [Nat.mod_eq_of_lt (next.trans (by decide))] at sum
    rw [translateAddr_kseg0 (by omega) (by omega), sum, ← mapped, Nat.sub_add_comm (by omega)]
  by_cases kseg1 : va.toNat % 2 ^ 32 < 0xC0000000
  · rw [translateAddr_kseg1 (by omega) kseg1, Except.ok.injEq] at mapped
    have next : va.toNat % 2 ^ 32 + k < 0xC0000000 := by omega
    rw [Nat.mod_eq_of_lt (next.trans (by decide))] at sum
    rw [translateAddr_kseg1 (by omega) (by omega), sum, ← mapped, Nat.sub_add_comm (by omega)]
  · simp [translateAddr_above_kseg1 (Nat.le_of_not_lt kseg1)] at mapped

/-- A segment holds a whole number of aligned units. -/
theorem translateAddr_lt {va : Word} {pa n k : Nat} (size : n ∈ [1, 2, 4, 8]) (even : va.toNat % n = 0)
    (mapped : translateAddr va = .ok pa) (inside : k < n) : pa + k < 2 ^ 29 := by
  have unit : pa < 2 ^ 29 ∧ pa % n = 0 := by
    have divides : n ∣ 2 ^ 29 ∧ n ∣ 2 ^ 32 := by
      simp only [List.mem_cons, List.not_mem_nil, or_false] at size
      obtain rfl | rfl | rfl | rfl := size <;> decide
    have segment : pa < 2 ^ 29 ∧ ∃ c, pa + c * 2 ^ 29 = va.toNat % 2 ^ 32 := by
      by_cases user : va.toNat % 2 ^ 32 < 0x80000000
      · simp [translateAddr_user user] at mapped
      by_cases kseg0 : va.toNat % 2 ^ 32 < 0xA0000000
      · rw [translateAddr_kseg0 (by omega) kseg0, Except.ok.injEq] at mapped
        exact ⟨by omega, 4, by omega⟩
      by_cases kseg1 : va.toNat % 2 ^ 32 < 0xC0000000
      · rw [translateAddr_kseg1 (by omega) kseg1, Except.ok.injEq] at mapped
        exact ⟨by omega, 5, by omega⟩
      · simp [translateAddr_above_kseg1 (Nat.le_of_not_lt kseg1)] at mapped
    obtain ⟨bound, c, sum⟩ := segment
    have virtual : n ∣ va.toNat % 2 ^ 32 := (Nat.dvd_mod_iff divides.2).2 (Nat.dvd_of_mod_eq_zero even)
    rw [← sum] at virtual
    exact ⟨bound, Nat.mod_eq_zero_of_dvd ((Nat.dvd_add_left (Dvd.dvd.mul_left divides.1 c)).1 virtual)⟩
  obtain ⟨bound, even⟩ := unit
  simp only [List.mem_cons, List.not_mem_nil, or_false] at size
  obtain rfl | rfl | rfl | rfl := size <;> omega

/-! ### Accesses made byte by byte (R172) -/

section bytewise
variable {s t u : State} {n pa k : Nat} {va v w : Word} {row : Region} {f : Fault}

/-- A byte inside the row passes every check. -/
theorem access_byte (mapped : translateAddr (va + BitVec.ofNat 64 k) = .ok (pa + k))
    (routed : route s.params.physMap (pa + k) = some row) :
    access 1 (va + BitVec.ofNat 64 k) s = .ok ⟨pa + k, row, true⟩ := by
  have even : (va + BitVec.ofNat 64 k).toNat % 1 = 0 := Nat.mod_one _
  have inside := (base_le_of_route routed).2
  rw [access_in_row (.inl even) mapped routed (by omega), (aligned_iff _ _).2 even]

theorem loadBytes_succ (read : loadBytes va k s = .ok (v, t)) (byte : load 1 (va + BitVec.ofNat 64 k) t = .ok (w, u)) :
    loadBytes va (k + 1) s = .ok ((v <<< 8) ||| w, u) := by
  simp only [loadBytes, read, byte]

theorem loadBytes_halts (read : loadBytes va k s = .ok (v, t)) (byte : load 1 (va + BitVec.ofNat 64 k) t = .error f) :
    loadBytes va (k + 1) s = .error f := by
  simp only [loadBytes, read, byte]

theorem loadBytes_error (halted : loadBytes va k s = .error f) (later : k ≤ n) : loadBytes va n s = .error f := by
  induction later with
  | refl => exact halted
  | step _ ih => simp only [loadBytes, ih]

/-- Reads that leave the state as it is. -/
theorem loadBytes_of_bytes (g : Nat → Byte) (a : Nat)
    (bytes : ∀ k, k < n → load 1 (va + BitVec.ofNat 64 k) s = .ok ((g (a + k)).setWidth 64, s)) :
    loadBytes va n s = .ok (bytesBE g a n, s) := by
  induction n with
  | zero => rfl
  | succ n ih => exact loadBytes_succ (ih fun k inside => bytes k (by omega)) (bytes n (by omega))

/-- The offset in the row of the byte `k` of an access. -/
theorem offset_add (first : row.base ≤ pa) (k : Nat) : pa + k - row.base = pa - row.base + k := by omega

theorem readAt_byte_memory (memory : row.kind = .memory) :
    readAt 1 ⟨pa + k, row, true⟩ s = .ok ((s.mem.byte (pa + k)).setWidth 64, s) := by
  simp only [readAt, memory, Memory.readBE, bytesBE_one]

theorem readAt_byte_rom (rom : row.kind = .rom) (first : row.base ≤ pa) (inside : pa - row.base + k < s.rom.length) :
    readAt 1 ⟨pa + k, row, true⟩ s = .ok ((s.rom.getD (pa - row.base + k) 0#8).setWidth 64, s) := by
  rw [readAt_rom rom (by dsimp only; omega), offset_add first, romBE, bytesBE_one]

theorem readAt_byte_device {id : DeviceId} {len : Nat} (device : row.kind = .device id len) (first : row.base ≤ pa) :
    readAt 1 ⟨pa + k, row, true⟩ s = .ok (deviceRead id len (pa - row.base + k) 1 s) := by
  simp only [readAt, device, offset_add first, if_true]

/-- What `access_byte` gives for every byte of an access that lies in one row, in the states that its reads or writes
pass through. -/
def BytesInRow (s : State) (va : Word) (pa n : Nat) (row : Region) : Prop :=
  ∀ t : State, t.params = s.params → ∀ k, k < n → access 1 (va + BitVec.ofNat 64 k) t = .ok ⟨pa + k, row, true⟩

theorem bytesInRow (mapped : translateAddr va = .ok pa) (low : row.last < 2 ^ 29)
    (routed : ∀ k, k < n → route s.params.physMap (pa + k) = some row) : BytesInRow s va pa n row := by
  intro t same k inside
  have bound := (base_le_of_route (routed k inside)).2
  exact access_byte (translateAddr_add mapped (by omega)) (same ▸ routed k inside)

variable (first : row.base ≤ pa) (pos : 0 < n) (bytes : BytesInRow s va pa n row)
include bytes

theorem loadBytes_memory (memory : row.kind = .memory) : loadBytes va n s = readAt n ⟨pa, row, false⟩ s := by
  have byte (k : Nat) (inside : k < n) := (load_of_access (bytes s rfl k inside)).trans (readAt_byte_memory memory)
  rw [loadBytes_of_bytes s.mem.byte pa byte]
  simp only [readAt, memory, Memory.readBE]

include first

theorem loadBytes_device {id : DeviceId} {len : Nat} (device : row.kind = .device id len) :
    loadBytes va n s = readAt n ⟨pa, row, false⟩ s := by
  have reads (k : Nat) (bound : k ≤ n) : loadBytes va k s = .ok (deviceReadBytes id len (pa - row.base) k s) := by
    induction k with
    | zero => rfl
    | succ k ih =>
      obtain ⟨d, drawn⟩ := deviceReadBytes_state id len (pa - row.base) k s
      have access := bytes (deviceReadBytes id len (pa - row.base) k s).2 (by rw [drawn]) k (by omega)
      exact loadBytes_succ (ih (by omega)) ((load_of_access access).trans (readAt_byte_device device first))
  rw [reads n le_rfl]
  simp only [readAt, device, Bool.false_eq_true, if_false]

include pos in
/-- Past the image the first byte that is missing halts. -/
theorem loadBytes_rom (rom : row.kind = .rom) : loadBytes va n s = readAt n ⟨pa, row, false⟩ s := by
  have reads (m : Nat) (bound : m ≤ n) (image : m = 0 ∨ pa - row.base + m ≤ s.rom.length) :
      loadBytes va m s = .ok (romBE s.rom (pa - row.base) m, s) :=
    loadBytes_of_bytes _ _ fun k inside =>
      (load_of_access (bytes s rfl k (by omega))).trans (readAt_byte_rom rom first (by omega))
  by_cases image : pa - row.base + n ≤ s.rom.length
  · rw [reads n le_rfl (.inr image), readAt_rom rom image]
  · rw [readAt_rom_missing rom (Nat.lt_of_not_le image)]
    obtain ⟨m, missing⟩ : ∃ m, m = s.rom.length - (pa - row.base) := ⟨_, rfl⟩
    have halts := readAt_rom_missing (n := 1) (a := ⟨pa + m, row, true⟩) (s := s) rom (by dsimp only; omega)
    have address : romMissing ⟨pa + m, row, true⟩ s.rom.length = romMissing ⟨pa, row, false⟩ s.rom.length := by
      simp only [romMissing, if_true, Bool.false_eq_true, if_false]
      omega
    rw [address] at halts
    exact loadBytes_error (loadBytes_halts (reads m (by omega) (by omega))
      ((load_of_access (bytes s rfl m (by omega))).trans halts)) (by omega)

include pos in
theorem loadBytes_eq_readAt : loadBytes va n s = readAt n ⟨pa, row, false⟩ s := by
  cases kind : row.kind with
  | memory => exact loadBytes_memory bytes kind
  | rom => exact loadBytes_rom first pos bytes kind
  | device id len => exact loadBytes_device first bytes kind

end bytewise

/-! ### What a read returns -/

section reads
variable {s : State} {n pa : Nat} {va : Word} {row : Region}

theorem mappedMi_eq_false {id : DeviceId} (free : id ≠ .mi ∨ s.params.miMap = .oracle) : mappedMi id s = false := by
  obtain other | oracle := free
  · simp [mappedMi, other]
  · simp [mappedMi, oracle]

theorem mappedMi_mi (map : s.params.miMap = .registers) : mappedMi .mi s = true := by simp [mappedMi, map]

/-- 60_exceptions.md R741: the pending bits, read as a whole register. -/
theorem deviceAnswer_intr (map : s.params.miMap = .registers) :
    deviceAnswer .mi 8 4 s = s.miIntr.setWidth 64 := by
  rw [deviceAnswer, mappedMi_mi map, if_pos rfl, bytesBE_regByte (s.miIntr.setWidth 32) _ 8 fun k inside => ?_,
    BitVec.setWidth_setWidth (by decide)]
  have ranges : ¬ 8 + k < 4 ∧ ¬ 8 + k < 8 ∧ 8 + k < 12 := by omega
  simp [miByte, ranges]

theorem deviceAnswer_mask (map : s.params.miMap = .registers) :
    deviceAnswer .mi 12 4 s = s.miMask.setWidth 64 := by
  rw [deviceAnswer, mappedMi_mi map, if_pos rfl, bytesBE_regByte (s.miMask.setWidth 32) _ 12 fun k inside => ?_,
    BitVec.setWidth_setWidth (by decide)]
  have ranges : ¬ 12 + k < 4 ∧ ¬ 12 + k < 8 ∧ ¬ 12 + k < 12 := by omega
  simp [miByte, ranges]

end reads

theorem size_bounds {n : Nat} (size : n ∈ [1, 2, 4, 8]) : 0 < n ∧ n ≤ 8 := by
  simp only [List.mem_cons, List.not_mem_nil, or_false] at size
  obtain rfl | rfl | rfl | rfl := size <;> decide

/-- Settles O40: the checks pass, and the read of the row is the one of `readAt`, in one access or byte by byte. -/
theorem busReads : Obligations.BusReads := by
  unfold Obligations.BusReads
  intro s n va pa size
  obtain ⟨pos, fits⟩ := size_bounds size
  refine ⟨fun access => ⟨_, load_memory pos access, bytesBE_high fits _ _, fun k => byte_bytesBE _ _ _ _ fits⟩,
    fun row even mapped routed => ⟨fun rom inside image => ?_, fun id len device past => ?_,
      fun id len device inside => ?_, fun device map four => ?_⟩, fun row odd bytewise mapped low routed => ?_⟩
  · have checked := access_in_row (.inl even) mapped routed inside
    refine ⟨_, (load_of_access checked).trans (readAt_rom rom image), bytesBE_high fits _ _, fun k bound => ?_⟩
    have there : pa - row.base + k < s.rom.length := by omega
    rw [romBE, byte_bytesBE _ _ _ _ fits bound, List.getElem?_eq_getElem there, List.getD_eq_getElem _ _ there]
  · rw [load_device even mapped routed device, deviceRead, if_pos past]
  · rw [load_device even mapped routed device, deviceRead_inside s inside]
    exact ⟨_, rfl, bytesBE_high fits _ _, fun free k bound stored =>
      byte_deviceAnswer id _ n k s fits bound (mappedMi_eq_false free) stored⟩
  · subst four
    rw [load_device even mapped routed device]
    refine ⟨fun intr => ?_, fun mask => ?_⟩
    · rw [deviceRead_inside s (by omega), intr, Nat.add_sub_cancel_left, deviceAnswer_intr map]
    · rw [deviceRead_inside s (by omega), mask, Nat.add_sub_cancel_left, deviceAnswer_mask map]
  · have first : row.base ≤ pa := (base_le_of_route (routed 0 pos)).1
    have last := (base_le_of_route (routed (n - 1) (by omega))).2
    have checked := access_in_row (n := n) (.inr bytewise) mapped (routed 0 pos) (by omega)
    rw [Bool.eq_false_iff.2 (mt (aligned_iff n va).1 odd)] at checked
    rw [load_of_access checked, loadBytes_eq_readAt first pos (bytesInRow mapped low routed)]

/-! ### What a write leaves -/

theorem BusEffect.params {s t : State} (effect : BusEffect s t) : t.params = s.params := effect.frame.params

theorem BusEffect.frame_draws {s t : State} (effect : BusEffect s t) : Frame { cop0 := [Cop0.cause] } s
    { t with mem := s.mem, blocks := s.blocks, miIntr := s.miIntr, miMask := s.miMask, draws := s.draws } :=
  { effect.frame with draws := fun _ => rfl }

/-! ### A write made byte by byte -/

section bytewiseWrites
variable {s t u : State} {n pa k : Nat} {va v w : Word} {row : Region} {f : Fault}

theorem storeBytes_succ (written : storeBytes va n v k s = .ok t)
    (byte : store 1 (va + BitVec.ofNat 64 k) ((byteBE n k v).setWidth 64) t = .ok u) :
    storeBytes va n v (k + 1) s = .ok u := by
  simp only [storeBytes, written]
  exact byte

theorem storeBytes_halts (halts : store 1 va ((byteBE n 0 v).setWidth 64) s = .error f) (pos : 0 < k) :
    storeBytes va n v k s = .error f := by
  induction pos with
  | refl =>
    rw [← BitVec.add_zero (x := va)] at halts
    simp only [storeBytes]
    exact halts
  | step _ ih => simp only [storeBytes, ih]

/-- R171: a big-endian write ends with its least significant byte. -/
theorem writeBE_succ (m : Memory) (pa k : Nat) (inside : k < n) :
    (m.writeBE pa k (v >>> (8 * (n - k)))).writeBE (pa + k) 1 ((byteBE n k v).setWidth 64) =
      m.writeBE pa (k + 1) (v >>> (8 * (n - (k + 1)))) := by
  have earlier : v >>> (8 * (n - (k + 1))) >>> 8 = v >>> (8 * (n - k)) := by
    rw [← BitVec.shiftRight_add]
    congr 1
    omega
  have byte : ((byteBE n k v).setWidth 64).setWidth 8 = (v >>> (8 * (n - (k + 1)))).setWidth 8 := by
    apply BitVec.eq_of_getLsbD_eq
    intro i hi
    have position : 8 * (n - 1 - k) + i = 8 * (n - (k + 1)) + i := by omega
    have inWord : i < 64 := by omega
    simp [byteBE, hi, position, inWord]
  simp only [Memory.writeBE, earlier, byte, Nat.add_zero]

theorem writeAt_byte_device {id : DeviceId} {len : Nat} (device : row.kind = .device id len) (first : row.base ≤ pa)
    (b : Byte) : writeAt 1 ⟨pa + k, row, true⟩ (b.setWidth 64) s =
      deviceWrite id len (pa - row.base + k) 1 (b.setWidth 64) s := by
  simp only [writeAt, device, offset_add first, if_true, lowBytes_byte]

variable (first : row.base ≤ pa) (pos : 0 < n) (bytes : BytesInRow s va pa n row)
include bytes

theorem storeBytes_memory (memory : row.kind = .memory) :
    storeBytes va n v n s = .ok (writeAt n ⟨pa, row, false⟩ v s) := by
  have writes (k : Nat) (bound : k ≤ n) :
      storeBytes va n v k s = .ok { s with mem := s.mem.writeBE pa k (v >>> (8 * (n - k))) } := by
    induction k with
    | zero => rfl
    | succ k ih =>
      refine storeBytes_succ (ih (by omega)) ?_
      have checked := bytes { s with mem := s.mem.writeBE pa k (v >>> (8 * (n - k))) } rfl k bound
      refine (store_of_access _ checked (by simp [memory])).trans ?_
      simp only [writeAt, memory, writeBE_succ s.mem pa k bound]
  rw [writes n le_rfl]
  simp [writeAt, memory]

include pos in
theorem storeBytes_rom (rom : row.kind = .rom) : storeBytes va n v n s = .error (.readOnlyWrite pa) := by
  have halts := store_of_access_rom ((byteBE n 0 v).setWidth 64) (bytes s rfl 0 pos) rom
  rw [BitVec.add_zero] at halts
  exact storeBytes_halts halts pos

include first in
/-- The bytes of the value above those written do not count. -/
theorem storeBytes_device {id : DeviceId} {len : Nat} (device : row.kind = .device id len) :
    storeBytes va n v n s = .ok (writeAt n ⟨pa, row, false⟩ v s) := by
  have writes (k : Nat) (bound : k ≤ n) :
      storeBytes va n v k s = .ok (deviceWriteBytes id len (pa - row.base) n v k s) := by
    induction k with
    | zero => rfl
    | succ k ih =>
      refine storeBytes_succ (ih (by omega)) ?_
      have params := (busEffect_deviceWriteBytes id len (pa - row.base) n v k s).params
      rw [store_of_access _ (bytes _ params k bound) (by simp [device]), writeAt_byte_device device first,
        deviceWriteBytes]
  rw [writes n le_rfl]
  simp only [writeAt, device, Bool.false_eq_true, if_false]

end bytewiseWrites

/-! ### A write to a device -/

section deviceWrites
variable {s : State} {len off n : Nat} {v : Word}

/-- The interrupt controller moves no memory. -/
theorem deviceWrite_mi (inside : off + n ≤ len) : ∃ e : DeviceEffect, deviceWrite .mi len off n v s =
    syncAggregate { s with
      blocks := blocksAfter .mi off n v e s.blocks
      miIntr := (miAfter off n v e s).1
      miMask := (miAfter off n v e s).2
      draws := s.draws + 1 } := by
  refine ⟨Config.deviceWrite s.draws .mi off n v, ?_⟩
  rw [deviceWrite, if_neg (by omega)]

/-- Another device leaves the mask bits, and moves memory in memory rows only. -/
theorem deviceWrite_other {id : DeviceId} (other : id ≠ .mi) (inside : off + n ≤ len) :
    ∃ e : DeviceEffect, deviceWrite id len off n v s =
      syncAggregate { s with
        mem := s.mem.setAll (e.dma.filter fun c => inMemory s.params.physMap c.1)
        blocks := blocksAfter id off n v e s.blocks
        miIntr := e.intr
        draws := s.draws + 1 } := by
  refine ⟨Config.deviceWrite s.draws id off n v, ?_⟩
  rw [deviceWrite, if_neg (by omega)]
  cases id with
  | mi => exact absurd rfl other
  | _ => rfl

/-- What a write inside a device's block does, said once: the register block, memory, the interrupt controller. -/
structure DeviceWritten (id : DeviceId) (off n : Nat) (v : Word) (s t : State) : Prop where
  stored    : (∀ i, (s.blocks.get i).wf) → ∀ k, k < n → Config.storesValue id (off + k) = true →
    (t.blocks.get id).byte (off + k) = byteBE n k v
  memory    : s.mem.wf → ∀ a, inMemory s.params.physMap a = false → t.mem.byte a = s.mem.byte a
  aggregate : bit t.cause 10 = Machine.aggregate t.miIntr t.miMask
  mask      : id ≠ .mi → t.miMask = s.miMask
  mem       : id = .mi → t.mem = s.mem
  draws     : t.draws = s.draws + 1

theorem deviceWritten (id : DeviceId) (inside : off + n ≤ len) :
    DeviceWritten id off n v s (deviceWrite id len off n v s) := by
  by_cases mi : id = .mi
  · subst mi
    obtain ⟨e, written⟩ := deviceWrite_mi (v := v) (s := s) inside
    rw [written]
    exact ⟨fun wf => byte_blocksAfter .mi off n v e wf, fun _ _ _ => rfl, syncAggregate_bit _,
      fun other => absurd rfl other, fun _ => rfl, rfl⟩
  · obtain ⟨e, written⟩ := deviceWrite_other (v := v) (s := s) mi inside
    rw [written]
    refine ⟨fun wf => byte_blocksAfter id off n v e wf, fun wf a outside =>
      Memory.byte_setAll_other wf fun c moved same => ?_, syncAggregate_bit _, fun _ => rfl,
      fun same => absurd same mi, rfl⟩
    have inside := (List.mem_filter.1 moved).2
    rw [same, outside] at inside
    exact Bool.false_ne_true inside

theorem aggregate_eq_decide (intr mask : BitVec 6) : aggregate intr mask = decide (intr &&& mask ≠ 0#6) :=
  (decide_not (p := intr &&& mask = 0#6)).symm

/-- A one-byte read of a register that stores its value. -/
theorem deviceRead_byte {id : DeviceId} {t : State} (free : mappedMi id t = false) (inside : off + 1 ≤ len)
    (stored : Config.storesValue id off = true) :
    deviceRead id len off 1 t = (((t.blocks.get id).byte off).setWidth 64, { t with draws := t.draws + 1 }) := by
  rw [deviceRead_inside t inside, deviceAnswer, free, if_neg Bool.false_ne_true, bytesBE_one, blockByte, if_pos stored]
  rfl

end deviceWrites

/-- Settles O41: the checks pass, and the write to the row is the one of `writeAt`, in one access or byte by byte. -/
theorem busWrites : Obligations.BusWrites := by
  unfold Obligations.BusWrites
  intro s n va v pa size wf blocks
  obtain ⟨pos, fits⟩ := size_bounds size
  refine ⟨fun access => ?_, fun row id len even mapped routed device => ⟨fun past => ?_, fun inside => ?_⟩,
    fun row odd bytewise mapped low routed => ?_⟩
  · obtain ⟨t, written, frame, stored⟩ := storesBytes_next wf pa n v
    obtain rfl := Host.Outcome.next.inj written
    have again : MemoryAccess { s with mem := s.mem.writeBE pa n v } n va pa := access
    refine ⟨_, store_memory v pos access, frame, Memory.wf_writeBE pa n v wf, stored, ?_⟩
    rw [load_memory pos again, Memory.readBE_writeBE pa n v wf fits, lowBytes_eq_ofNat fits]
  · rw [store_device even mapped routed device, deviceWrite, if_pos past]
  · have effect := busEffect_deviceWrite id len (pa - row.base) n (lowBytes n v) s
    have written := deviceWritten (v := lowBytes n v) (s := s) id inside
    have first := (base_le_of_route routed).1
    refine ⟨_, store_device even mapped routed device, effect.wf wf, effect.blocks blocks, fun k bound stores => ?_,
      written.memory wf, written.aggregate.trans (aggregate_eq_decide _ _), effect.cause, written.mask, written.mem,
      written.draws, ?_⟩
    · have held := (written.stored blocks k bound stores).trans (byteBE_lowBytes fits bound v)
      refine ⟨held, fun free routed => ?_⟩
      have params := effect.params
      have checked := access_byte (translateAddr_add mapped (translateAddr_lt size even mapped bound)) (params ▸ routed)
      rw [load_of_access checked, readAt_byte_device device first,
        deviceRead_byte (mappedMi_eq_false (params ▸ free)) (by omega) stores, held]
      exact ⟨_, rfl⟩
    · exact effect.frame_draws
  · have first : row.base ≤ pa := (base_le_of_route (routed 0 pos)).1
    have last := (base_le_of_route (routed (n - 1) (by omega))).2
    have checked := access_in_row (n := n) (.inr bytewise) mapped (routed 0 pos) (by omega)
    rw [Bool.eq_false_iff.2 (mt (aligned_iff n va).1 odd)] at checked
    have bytes := bytesInRow mapped low routed
    cases kind : row.kind with
    | memory => rw [store_of_access v checked (by simp [kind]), storeBytes_memory bytes kind]
    | rom => rw [store_of_access_rom v checked kind, storeBytes_rom pos bytes kind]
    | device id len => rw [store_of_access v checked (by simp [kind]), storeBytes_device first bytes kind]

/-! ### The interrupt controller (60_exceptions.md R740, R741) -/

section controller
variable (a : EnvAction) (s : State)

theorem act_fields : (a.act s).miIntr = a.intr.getD s.miIntr ∧ (a.act s).miMask = a.mask.getD s.miMask ∧
    (a.act s).blocks = s.blocks.setRegs a.regs ∧ (a.act s).env = s.env ∧ (a.act s).mem = s.mem ∧
    (a.act s).draws = s.draws := by
  unfold EnvAction.act
  dsimp only
  split <;> exact ⟨rfl, rfl, rfl, rfl, rfl, rfl⟩

theorem act_aggregate (named : a.intr ≠ none ∨ a.mask ≠ none) :
    bit (a.act s).cause 10 = aggregate (a.act s).miIntr (a.act s).miMask := by
  have sync : (a.intr.isSome || a.mask.isSome) = true := by
    rwa [Bool.or_eq_true, Option.isSome_iff_ne_none, Option.isSome_iff_ne_none]
  unfold EnvAction.act
  dsimp only
  rw [if_pos sync, syncAggregate_bit]
  rfl

/-- The bits of a six-bit value put together from its bits. -/
theorem getLsbD_sixBits : ∀ b5 b4 b3 b2 b1 b0 : Bool,
    let v : BitVec 6 := BitVec.ofBool b5 ++ BitVec.ofBool b4 ++ BitVec.ofBool b3 ++ BitVec.ofBool b2 ++ BitVec.ofBool b1
      ++ BitVec.ofBool b0
    v.getLsbD 0 = b0 ∧ v.getLsbD 1 = b1 ∧ v.getLsbD 2 = b2 ∧ v.getLsbD 3 = b3 ∧ v.getLsbD 4 = b4 ∧
      v.getLsbD 5 = b5 := by
  decide

theorem getLsbD_miClear (w : Word32) (k : Fin 6) : (miClear w).getLsbD k = w.getLsbD (2 * k) := by
  obtain ⟨bit0, bit1, bit2, bit3, bit4, bit5⟩ :=
    getLsbD_sixBits (bit w 10) (bit w 8) (bit w 6) (bit w 4) (bit w 2) (bit w 0)
  fin_cases k
  exacts [bit0, bit1, bit2, bit3, bit4, bit5]

theorem getLsbD_miSet (w : Word32) (k : Fin 6) : (miSet w).getLsbD k = w.getLsbD (2 * k + 1) := by
  obtain ⟨bit0, bit1, bit2, bit3, bit4, bit5⟩ :=
    getLsbD_sixBits (bit w 11) (bit w 9) (bit w 7) (bit w 5) (bit w 3) (bit w 1)
  fin_cases k
  exacts [bit0, bit1, bit2, bit3, bit4, bit5]

/-- R741: the mask after a write that neither sets and clears one bit. -/
theorem getLsbD_miNewMask {w : Word32} (apart : ∀ k : Fin 6, w.getLsbD (2 * k) = false ∨ w.getLsbD (2 * k + 1) = false)
    (mask free : BitVec 6) (k : Fin 6) : (miNewMask w mask free).getLsbD k =
      (w.getLsbD (2 * k + 1) || (mask.getLsbD k && !w.getLsbD (2 * k))) := by
  have single : miClear w &&& miSet w = 0#6 := by
    apply BitVec.eq_of_getLsbD_eq
    intro i hi
    rw [BitVec.getLsbD_and, getLsbD_miClear w ⟨i, hi⟩, getLsbD_miSet w ⟨i, hi⟩, BitVec.getLsbD_zero]
    exact Bool.and_eq_false_iff.2 (apart ⟨i, hi⟩)
  rw [miNewMask, if_pos single, BitVec.getLsbD_or, BitVec.getLsbD_and, BitVec.getLsbD_not, getLsbD_miClear,
    getLsbD_miSet, decide_eq_true k.isLt, Bool.true_and, Bool.or_comm]

/-- R741: a whole-register write to MI_MASK. -/
theorem miAfter_mask {s : State} (map : s.params.miMap = .registers) (v : Word) (e : DeviceEffect) :
    miAfter 12 4 v e s = (s.miIntr, miNewMask (low32 v) s.miMask e.mask) := by
  rw [miAfter, map]
  rfl

theorem getLsbD_low32_lowBytes {i : Nat} (low : i < 32) (v : Word) :
    (low32 (lowBytes 4 v)).getLsbD i = v.getLsbD i := by
  rw [low32, BitVec.getLsbD_setWidth, getLsbD_lowBytes 4 (by decide), decide_eq_true low]
  rfl

end controller

/-- Settles O17: an action is `EnvAction.act`, the store a device write of the whole register MI_MASK. -/
theorem aggregateFollowsThePendingAndMaskBits : Obligations.AggregateFollowsThePendingAndMaskBits := by
  unfold Obligations.AggregateFollowsThePendingAndMaskBits
  refine ⟨fun s idle => by rw [applyEnv, idle], fun s t a rest queue applied => ?_, ?_⟩
  · have acted : applyEnv s = a.act { s with env := rest } := by rw [applyEnv, queue]
    rw [applied, acted]
    have effect := busEffect_act a { s with env := rest }
    obtain ⟨intr, mask, blocks, env, mem, draws⟩ := act_fields a { s with env := rest }
    refine ⟨intr, mask, blocks, env, fun named => (act_aggregate a _ named).trans (aggregate_eq_decide _ _),
      effect.cause, ?_⟩
    exact { effect.frame with draws := fun _ => draws, bytes := fun _ _ => by rw [mem], env := rfl }
  · intro s base rt offset row va even mapped routed device map apart
    have written := storeGpr_of_ok (store_device (v := s.gpr rt) even mapped routed device)
    rw [Nat.add_sub_cancel_left] at written
    have effect := busEffect_deviceWrite .mi 16 12 4 (lowBytes 4 (s.gpr rt)) s
    obtain ⟨e, result⟩ := deviceWrite_mi (len := 16) (off := 12) (n := 4) (v := lowBytes 4 (s.gpr rt)) (s := s)
      (by decide)
    rw [miAfter_mask map] at result
    refine ⟨_, written, ?_, fun k => ?_, ?_, effect.cause, ?_⟩
    · rw [result]
      rfl
    · have bits (i : Nat) (low : i < 12) := getLsbD_low32_lowBytes (i := i) (by omega) (s.gpr rt)
      have apart' (j : Fin 6) : (low32 (lowBytes 4 (s.gpr rt))).getLsbD (2 * j) = false ∨
          (low32 (lowBytes 4 (s.gpr rt))).getLsbD (2 * j + 1) = false := by
        rw [bits _ (by omega), bits _ (by omega)]
        exact apart j
      rw [result]
      refine (getLsbD_miNewMask apart' s.miMask e.mask k).trans ?_
      rw [bits _ (by omega), bits _ (by omega)]
    · rw [result]
      exact (syncAggregate_bit _).trans (aggregate_eq_decide _ _)
    · exact { effect.frame with bytes := fun _ _ => by rw [result]; rfl, miIntr := by rw [result]; rfl }

end Sys2Proof.Machine
end


section
/-! Proofs about loads and stores of part of an aligned unit (43_load_store.md R454, R466 to R473): the merges byte by
byte, then the instructions. -/

namespace Sys2Proof.Machine

/-! ### The merges (R466 to R473)

Byte `j` of `n` counts from the most significant, and `k` is the offset of the address in the unit. -/

section merges
variable {w n k j : Nat}

/-- R466, R468: the left loads move the unit up by `k` bytes. -/
theorem byte_leftLoad (width : w = 8 * n) (inUnit : k < n) (byte : j < n) (u old : BitVec w) :
    ((u <<< (8 * k)) ||| (old &&& BitVec.ofNat w (2 ^ (8 * k) - 1))).extractLsb' (8 * (n - 1 - j)) 8 =
      if j < n - k then u.extractLsb' (8 * (n - 1 - (k + j))) 8 else old.extractLsb' (8 * (n - 1 - j)) 8 := by
  apply BitVec.eq_of_getLsbD_eq
  intro i hi
  have inside : 8 * (n - 1 - j) + i < w := by omega
  have mask : (BitVec.ofNat w (2 ^ (8 * k) - 1))[8 * (n - 1 - j) + i] = decide (8 * (n - 1 - j) + i < 8 * k) := by
    rw [← BitVec.getLsbD_eq_getElem, BitVec.getLsbD_ofNat, Nat.testBit_two_pow_sub_one, decide_eq_true inside,
      Bool.true_and]
  by_cases moved : j < n - k
  · have notMask : ¬ 8 * (n - 1 - j) + i < 8 * k := by omega
    have source : 8 * (n - 1 - j) + i - 8 * k = 8 * (n - 1 - (k + j)) + i := by omega
    have fromUnit : 8 * (n - 1 - (k + j)) + i < w := by omega
    simp [hi, moved, inside, notMask, source, fromUnit, mask]
  · have inMask : 8 * (n - 1 - j) + i < 8 * k := by omega
    simp [hi, moved, inside, inMask, mask]

/-- R467, R469: the right loads move the unit down. -/
theorem byte_rightLoad (width : w = 8 * n) (inUnit : k < n) (byte : j < n) (u old : BitVec w) :
    ((u >>> (8 * (n - 1 - k))) ||| (old &&& ~~~(BitVec.allOnes w >>> (8 * (n - 1 - k))))).extractLsb'
        (8 * (n - 1 - j)) 8 =
      if n - 1 - k ≤ j then u.extractLsb' (8 * (n - 1 - (j - (n - 1 - k)))) 8
      else old.extractLsb' (8 * (n - 1 - j)) 8 := by
  apply BitVec.eq_of_getLsbD_eq
  intro i hi
  have inside : 8 * (n - 1 - j) + i < w := by omega
  by_cases moved : n - 1 - k ≤ j
  · have source : 8 * (n - 1 - k) + (8 * (n - 1 - j) + i) = 8 * (n - 1 - (j - (n - 1 - k))) + i := by omega
    have fromUnit : 8 * (n - 1 - (j - (n - 1 - k))) + i < w := by omega
    simp [hi, moved, inside, source, fromUnit]
  · have beyond : ¬ 8 * (n - 1 - k) + (8 * (n - 1 - j) + i) < w := by omega
    simp [hi, moved, inside, beyond, BitVec.getLsbD_of_ge u _ (Nat.le_of_not_lt beyond)]

/-- R470, R472: the left stores move the register down by `k` bytes. -/
theorem byte_leftStore (width : w = 8 * n) (byte : j < n) (u v : BitVec w) :
    ((u &&& (BitVec.allOnes w ^^^ (BitVec.allOnes w >>> (8 * k)))) ||| (v >>> (8 * k))).extractLsb'
        (8 * (n - 1 - j)) 8 =
      if k ≤ j then v.extractLsb' (8 * (n - 1 - (j - k))) 8 else u.extractLsb' (8 * (n - 1 - j)) 8 := by
  apply BitVec.eq_of_getLsbD_eq
  intro i hi
  have inside : 8 * (n - 1 - j) + i < w := by omega
  by_cases moved : k ≤ j
  · have source : 8 * k + (8 * (n - 1 - j) + i) = 8 * (n - 1 - (j - k)) + i := by omega
    have fromRegister : 8 * (n - 1 - (j - k)) + i < w := by omega
    simp [hi, moved, inside, source, fromRegister]
  · have beyond : ¬ 8 * k + (8 * (n - 1 - j) + i) < w := by omega
    simp [hi, moved, inside, beyond, BitVec.getLsbD_of_ge v _ (Nat.le_of_not_lt beyond)]

/-- R471, R473: the right stores move the register up. -/
theorem byte_rightStore (width : w = 8 * n) (inUnit : k < n) (byte : j < n) (u v : BitVec w) :
    ((u &&& (BitVec.allOnes w >>> (8 * (k + 1)))) ||| (v <<< (8 * (n - 1 - k)))).extractLsb' (8 * (n - 1 - j)) 8 =
      if j ≤ k then v.extractLsb' (8 * (k - j)) 8 else u.extractLsb' (8 * (n - 1 - j)) 8 := by
  apply BitVec.eq_of_getLsbD_eq
  intro i hi
  have inside : 8 * (n - 1 - j) + i < w := by omega
  by_cases moved : j ≤ k
  · have masked : ¬ 8 * (k + 1) + (8 * (n - 1 - j) + i) < w := by omega
    have shifted : ¬ 8 * (n - 1 - j) + i < 8 * (n - 1 - k) := by omega
    have source : 8 * (n - 1 - j) + i - 8 * (n - 1 - k) = 8 * (k - j) + i := by omega
    have fromRegister : 8 * (k - j) + i < w := by omega
    simp [hi, moved, inside, masked, shifted, source, fromRegister]
  · have kept : 8 * (k + 1) + (8 * (n - 1 - j) + i) < w := by omega
    have below : 8 * (n - 1 - j) + i < 8 * (n - 1 - k) := by omega
    simp [hi, moved, inside, kept, below]

end merges

/-! ### The bytes of the low half of a register -/

section lowHalf
variable {p : Nat} (inHalf : p + 8 ≤ 32)
include inHalf

theorem byte_sext32 (v : Word32) : (sext32 v).extractLsb' p 8 = v.extractLsb' p 8 := by
  apply BitVec.eq_of_getLsbD_eq
  intro i hi
  have low : p + i < 32 := by omega
  have inWord : p + i < 64 := by omega
  simp [sext32, hi, low, inWord, BitVec.getElem_signExtend]

theorem byte_low32 (v : Word) : (low32 v).extractLsb' p 8 = v.extractLsb' p 8 := by
  apply BitVec.eq_of_getLsbD_eq
  intro i hi
  have low : p + i < 32 := by omega
  simp [low32, hi, low]

theorem byte_setWidth64 (v : Word32) : (v.setWidth 64).extractLsb' p 8 = v.extractLsb' p 8 := by
  apply BitVec.eq_of_getLsbD_eq
  intro i hi
  have inWord : p + i < 64 := by omega
  simp [hi, inWord]

end lowHalf

/-- A sign-extended word is the extension of its low half. -/
theorem sext32_low_sext32 (v : Word32) : sext32 v = ((sext32 v).setWidth 32).signExtend 64 :=
  (congrArg sext32 (low32_sext32 v)).symm

/-! ### Part loads -/

/-- What the merge of a part load is to do with unit `u` and register `old`, of `n` bytes: the left forms put the bytes
from offset `k` to the end of the unit at the top, the right forms those up to offset `k` at the bottom. -/
def MergesLoad (n : Nat) (left : Bool) (merge : Nat → Word → Word → Word) : Prop :=
  ∀ k < n, ∀ u old, (n = 4 → merge k u old = ((merge k u old).setWidth 32).signExtend 64) ∧
    ∀ j < n, (merge k u old).extractLsb' (8 * (n - 1 - j)) 8 =
      if left then
        if j < n - k then u.extractLsb' (8 * (n - 1 - (k + j))) 8 else old.extractLsb' (8 * (n - 1 - j)) 8
      else
        if n - 1 - k ≤ j then u.extractLsb' (8 * (n - 1 - (j - (n - 1 - k)))) 8
        else old.extractLsb' (8 * (n - 1 - j)) 8

theorem mergesLoad_lwl : MergesLoad 4 true fun k u old => sext32 (lwlMerge k (low32 u) (low32 old)) := by
  intro k inUnit u old
  refine ⟨fun _ => sext32_low_sext32 _, fun j byte => ?_⟩
  rw [byte_sext32 (by omega), lwlMerge, byte_leftLoad (n := 4) rfl inUnit byte, byte_low32 (by omega),
    byte_low32 (by omega), if_pos rfl]

theorem mergesLoad_lwr : MergesLoad 4 false fun k u old => sext32 (lwrMerge k (low32 u) (low32 old)) := by
  intro k inUnit u old
  refine ⟨fun _ => sext32_low_sext32 _, fun j byte => ?_⟩
  rw [byte_sext32 (by omega), lwrMerge]
  refine (byte_rightLoad (n := 4) rfl inUnit byte _ _).trans ?_
  rw [byte_low32 (by omega), byte_low32 (by omega), if_neg Bool.false_ne_true]

theorem mergesLoad_ldl : MergesLoad 8 true ldlMerge := by
  intro k inUnit u old
  refine ⟨nofun, fun j byte => ?_⟩
  rw [ldlMerge, byte_leftLoad (n := 8) rfl inUnit byte, if_pos rfl]

theorem mergesLoad_ldr : MergesLoad 8 false ldrMerge := by
  intro k inUnit u old
  refine ⟨nofun, fun j byte => ?_⟩
  rw [ldrMerge]
  refine (byte_rightLoad (n := 8) rfl inUnit byte _ _).trans ?_
  rw [if_neg Bool.false_ne_true]

section partLoads
variable {n : Nat} {merge : Nat → Word → Word → Word} {base rt : Reg} {offset : Half} {s u : State} {v : Word}
  {f : Fault}

theorem loadPart_of_ok (read : load n (unitBase n (s.effAddr base offset)) s = .ok (v, u)) :
    loadPart n merge base rt offset s =
      .next (u.setGpr rt (merge (unitOffset n (s.effAddr base offset)) v (s.gpr rt))) := by
  rw [loadPart, read, orFault_ok]

theorem loadPart_of_error (halts : load n (unitBase n (s.effAddr base offset)) s = .error f) :
    loadPart n merge base rt offset s = .fault f := by
  rw [loadPart, halts, orFault_error]

end partLoads

/-- Settles O44: each row is a part load whose merge moves the bytes of the row's side. -/
theorem partLoads : Obligations.PartLoads := by
  unfold Obligations.PartLoads
  intro s base rt offset va p row n k
  obtain ⟨merge, pos, fits, meaning, merges⟩ : ∃ merge, 0 < p.2.1 ∧ p.2.1 ≤ 8 ∧
      exec p.1 s = loadPart p.2.1 merge base rt offset s ∧ MergesLoad p.2.1 p.2.2 merge := by
    simp only [List.mem_cons, List.not_mem_nil, or_false] at row
    obtain rfl | rfl | rfl | rfl := row
    · exact ⟨_, Nat.succ_pos _, (by decide : 4 ≤ 8), rfl, mergesLoad_lwl⟩
    · exact ⟨_, Nat.succ_pos _, (by decide : 4 ≤ 8), rfl, mergesLoad_lwr⟩
    · exact ⟨_, Nat.succ_pos _, (by decide : 8 ≤ 8), rfl, mergesLoad_ldl⟩
    · exact ⟨_, Nat.succ_pos _, (by decide : 8 ≤ 8), rfl, mergesLoad_ldr⟩
  have inUnit : k < n := Nat.mod_lt _ pos
  rw [meaning]
  refine ⟨fun f => loadPart_of_error, fun v u read => ⟨_, loadPart_of_ok read, merges k inUnit v (s.gpr rt)⟩,
    fun pa access => ?_⟩
  rw [loadPart_of_ok (load_memory pos access)]
  refine completes_next (frame_setGpr s rt _ (List.mem_singleton_self rt)) fun written => ?_
  obtain ⟨word, bytes⟩ := merges k inUnit (s.mem.readBE pa n) (s.gpr rt)
  rw [gpr_setGpr_self, if_neg written]
  refine ⟨word, fun j byte => (bytes j byte).trans ?_⟩
  have unit (m : Nat) (inside : m < n) : (s.mem.readBE pa n).extractLsb' (8 * (n - 1 - m)) 8 = s.mem.byte (pa + m) :=
    byte_bytesBE _ _ _ _ fits inside
  by_cases left : p.2.2 = true
  · rw [if_pos left, if_pos left]
    by_cases moved : j < n - k
    · rw [if_pos moved, if_pos moved, unit _ (by omega), Nat.add_assoc]
    · rw [if_neg moved, if_neg moved]
  · rw [if_neg left, if_neg left]
    by_cases moved : n - 1 - k ≤ j
    · rw [if_pos moved, if_pos moved, unit _ (by omega), Nat.add_sub_assoc moved]
    · rw [if_neg moved, if_neg moved]

/-! ### Part stores -/

/-- What the merge of a part store is to do with unit `u` and register `v`, of `n` bytes: the left forms put the top
bytes of the register from offset `k` on, the right forms its bottom bytes up to offset `k`. -/
def MergesStore (n : Nat) (left : Bool) (merge : Nat → Word → Word → Word) : Prop :=
  ∀ k < n, ∀ u v, ∀ j < n, byteBE n j (merge k u v) =
    if left then if k ≤ j then v.extractLsb' (8 * (n - 1 - (j - k))) 8 else byteBE n j u
    else if j ≤ k then v.extractLsb' (8 * (k - j)) 8 else byteBE n j u

theorem mergesStore_swl : MergesStore 4 true fun k u v => (swlMerge k (low32 u) (low32 v)).setWidth 64 := by
  intro k _ u v j byte
  rw [byteBE, byte_setWidth64 (by omega), swlMerge]
  refine (byte_leftStore (n := 4) rfl byte _ _).trans ?_
  rw [byte_low32 (by omega), byte_low32 (by omega), if_pos rfl, byteBE]

theorem mergesStore_swr : MergesStore 4 false fun k u v => (swrMerge k (low32 u) (low32 v)).setWidth 64 := by
  intro k inUnit u v j byte
  rw [byteBE, byte_setWidth64 (by omega), swrMerge]
  refine (byte_rightStore (n := 4) rfl inUnit byte _ _).trans ?_
  rw [byte_low32 (by omega), byte_low32 (by omega), if_neg Bool.false_ne_true, byteBE]

theorem mergesStore_sdl : MergesStore 8 true sdlMerge := by
  intro k _ u v j byte
  rw [byteBE, sdlMerge]
  refine (byte_leftStore (n := 8) rfl byte _ _).trans ?_
  rw [if_pos rfl, byteBE]

theorem mergesStore_sdr : MergesStore 8 false sdrMerge := by
  intro k inUnit u v j byte
  rw [byteBE, sdrMerge]
  refine (byte_rightStore (n := 8) rfl inUnit byte _ _).trans ?_
  rw [if_neg Bool.false_ne_true, byteBE]

section partStores
variable {n : Nat} {merge : Nat → Word → Word → Word} {base rt : Reg} {offset : Half} {s : State} {f : Fault}
  {a : Access}

theorem storePart_of_error (halts : storeAccess n (unitBase n (s.effAddr base offset)) s = .error f) :
    storePart n merge base rt offset s = .fault f := by
  rw [storePart, readModifyWrite, halts]
  rfl

/-- A place that can be written can be read. -/
theorem readAt_of_storeAccess {va : Word} (checked : storeAccess n va s = .ok a) :
    ∃ v t, readAt n a s = .ok (v, t) := by
  have writable : a.row.kind ≠ .rom := by
    intro rom
    unfold storeAccess at checked
    split at checked
    · cases checked
    · split at checked
      · cases checked
      · next other =>
        rw [Except.ok.injEq] at checked
        exact other (checked ▸ rom)
  unfold readAt
  split
  · exact ⟨_, _, rfl⟩
  · exact absurd ‹_› writable
  · exact ⟨_, _, rfl⟩

theorem storePart_of_ok (checked : storeAccess n (unitBase n (s.effAddr base offset)) s = .ok a) :
    ∃ t, storePart n merge base rt offset s = .next t := by
  obtain ⟨v, t, read⟩ := readAt_of_storeAccess checked
  refine ⟨writeAt n a (merge (unitOffset n (s.effAddr base offset)) v (s.gpr rt)) t, ?_⟩
  rw [storePart, readModifyWrite, checked]
  simp only [read, orFault_ok]

theorem storePart_memory {pa : Nat} (pos : 0 < n) (access : MemoryAccess s n (unitBase n (s.effAddr base offset)) pa) :
    storePart n merge base rt offset s = .next { s with
      mem := s.mem.writeBE pa n (merge (unitOffset n (s.effAddr base offset)) (s.mem.readBE pa n) (s.gpr rt)) } := by
  rw [storePart, readModifyWrite_memory _ pos access, orFault_ok]

theorem frame_mem {c : Touch} {m : Memory} (outside : ∀ a, ¬ (c.bytes.1 ≤ a ∧ a < c.bytes.1 + c.bytes.2) →
    m.byte a = s.mem.byte a) : Frame c s { s with mem := m } :=
  { Frame.refl c s with bytes := outside }

/-- The bytes of memory after a unit has been written back merged: those that the merge took from the register. -/
theorem byte_writeBE_merge {left : Bool} (merges : MergesStore n left merge) {m : Memory} (wf : m.wf) (fits : n ≤ 8)
    {k : Nat} (inUnit : k < n) (pa : Nat) (v : Word) (a : Nat) :
    (m.writeBE pa n (merge k (m.readBE pa n) v)).byte a =
      if left then
        if pa + k ≤ a ∧ a < pa + n then v.extractLsb' (8 * (n - 1 - (a - pa - k))) 8 else m.byte a
      else if pa ≤ a ∧ a < pa + k + 1 then v.extractLsb' (8 * (k - (a - pa))) 8 else m.byte a := by
  rw [Memory.byte_writeBE pa n _ wf]
  by_cases inside : pa ≤ a ∧ a < pa + n
  · obtain ⟨j, rfl⟩ := Nat.exists_eq_add_of_le inside.1
    have byte : j < n := by omega
    have kept : byteBE n j (m.readBE pa n) = m.byte (pa + j) := byte_bytesBE _ _ _ _ fits byte
    rw [if_pos inside, Nat.add_sub_cancel_left, merges k inUnit _ v j byte, kept]
    have leftRange : (pa + k ≤ pa + j ∧ pa + j < pa + n) ↔ k ≤ j := by omega
    have rightRange : (pa ≤ pa + j ∧ pa + j < pa + k + 1) ↔ j ≤ k := by omega
    simp only [leftRange, rightRange]
  · have leftRange : ¬ (pa + k ≤ a ∧ a < pa + n) := by omega
    have rightRange : ¬ (pa ≤ a ∧ a < pa + k + 1) := by omega
    rw [if_neg inside, if_neg leftRange, if_neg rightRange, ite_self]

end partStores

/-- Settles O45: each row is a part store whose merge moves the bytes of the row's side. -/
theorem partStores : Obligations.PartStores := by
  unfold Obligations.PartStores
  intro s base rt offset va p row n k
  obtain ⟨merge, pos, fits, meaning, merges⟩ : ∃ merge, 0 < p.2.1 ∧ p.2.1 ≤ 8 ∧
      exec p.1 s = storePart p.2.1 merge base rt offset s ∧ MergesStore p.2.1 p.2.2 merge := by
    simp only [List.mem_cons, List.not_mem_nil, or_false] at row
    obtain rfl | rfl | rfl | rfl := row
    · exact ⟨_, Nat.succ_pos 3, (by decide : 4 ≤ 8), (rfl : _ = execSwl base rt offset s), mergesStore_swl⟩
    · exact ⟨_, Nat.succ_pos 3, (by decide : 4 ≤ 8), (rfl : _ = execSwr base rt offset s), mergesStore_swr⟩
    · exact ⟨_, Nat.succ_pos 7, (by decide : 8 ≤ 8), (rfl : _ = execSdl base rt offset s), mergesStore_sdl⟩
    · exact ⟨_, Nat.succ_pos 7, (by decide : 8 ≤ 8), (rfl : _ = execSdr base rt offset s), mergesStore_sdr⟩
  have inUnit : k < n := Nat.mod_lt _ pos
  rw [meaning]
  refine ⟨fun f => storePart_of_error, fun a => storePart_of_ok, fun pa wf access => ?_⟩
  rw [storePart_memory pos access]
  have bytes := byte_writeBE_merge merges wf fits inUnit pa (s.gpr rt)
  refine completes_next (frame_mem fun a outside => ?_) fun j byte => ⟨fun left after => ?_, fun right upTo => ?_⟩
  · refine (bytes a).trans ?_
    by_cases left : p.2.2 = true
    · rw [if_pos left] at outside ⊢
      rw [if_neg (by dsimp only at outside; omega)]
    · rw [if_neg left] at outside ⊢
      rw [if_neg (by dsimp only at outside; omega)]
  · have range : pa + k ≤ pa + j ∧ pa + j < pa + n := by omega
    refine (bytes (pa + j)).trans ?_
    rw [if_pos left, if_pos range, Nat.add_sub_cancel_left]
  · have range : pa ≤ pa + j ∧ pa + j < pa + k + 1 := by omega
    refine (bytes (pa + j)).trans ?_
    rw [if_neg (Bool.eq_false_iff.1 right), if_pos range, Nat.add_sub_cancel_left]

end Sys2Proof.Machine
end


section
/-! Proofs about load-linked and store-conditional, and about the COP1 loads and stores (43_load_store.md R480 to
R488). -/

namespace Sys2Proof.Machine

/-! ### Load-linked and store-conditional (R480 to R483) -/

section linked
variable {n pa : Nat} {base rt : Reg} {offset : Half} {s u : State} {v : Word} {f : Fault} {a : Access}

/-- The physical address of a checked access. -/
theorem translateAddr_of_access {va : Word} (checked : access n va s = .ok a) : translateAddr va = .ok a.pa := by
  unfold access at checked
  split at checked
  · cases checked
  split at checked
  · cases checked
  next pa mapped =>
    split at checked
    · cases checked
    split at checked
    · rw [mapped, ← Except.ok.inj checked]
    · cases checked

theorem access_of_load {va : Word} (read : load n va s = .ok (v, u)) :
    ∃ a, access n va s = .ok a ∧ readAt n a s = .ok (v, u) := by
  unfold load at read
  split at read
  · cases read
  · exact ⟨_, ‹_›, read⟩

theorem loadLinked_of_ok (read : load n (s.effAddr base offset) s = .ok (v, u)) :
    ∃ a, translateAddr (s.effAddr base offset) = .ok a ∧
      loadLinked n base rt offset s = .next (linkTo a (u.setGpr rt (signExt n v))) := by
  obtain ⟨a, checked, read⟩ := access_of_load read
  exact ⟨a.pa, translateAddr_of_access checked, by simp only [loadLinked, checked, read, orFault_ok]⟩

theorem loadLinked_of_error (halts : load n (s.effAddr base offset) s = .error f) :
    loadLinked n base rt offset s = .fault f := by
  unfold load at halts
  unfold loadLinked
  split at halts
  next checked => rw [checked, orFault_error, Except.error.inj halts]
  next checked => simp only [checked, halts, orFault_ok, orFault_error]

theorem llAddr_linkTo (a : Nat) (t : State) : (linkTo a t).cop0 17#5 = BitVec.ofNat 32 (a / 16) :=
  cop0_setCop0_same t Cop0.llAddr _

theorem storeConditional_of_error (halts : storeAccess n (s.effAddr base offset) s = .error f) :
    storeConditional n base rt offset s = .fault f := by
  rw [storeConditional, halts, orFault_error]

/-- The store is made when the flag is set. -/
theorem storeConditional_of_linked (checked : storeAccess n (s.effAddr base offset) s = .ok a)
    (linked : s.llbit = true) :
    storeConditional n base rt offset s =
      .next { (writeAt n a (s.gpr rt) s).setGpr rt 1#64 with llbit := false } := by
  rw [storeConditional, checked, orFault_ok, if_pos linked]

theorem storeConditional_of_not_linked (checked : storeAccess n (s.effAddr base offset) s = .ok a)
    (free : s.llbit = false) :
    storeConditional n base rt offset s = .next { s.setGpr rt 0#64 with llbit := false } := by
  rw [storeConditional, checked, orFault_ok, free, if_neg Bool.false_ne_true]

theorem gpr_setGpr_llbit (t : State) (r : Reg) (v : Word) (b : Bool) :
    ({ t.setGpr r v with llbit := b } : State).gpr r = if r = 0#5 then 0#64 else v :=
  (gpr_congr _ (t.setGpr r v) rfl r).trans (gpr_setGpr_self t r v)

theorem writeAt_memory {va : Word} (pos : 0 < n) (access : MemoryAccess s n va pa) (v : Word) :
    ∃ a, storeAccess n va s = .ok a ∧ writeAt n a v s = { s with mem := s.mem.writeBE pa n v } := by
  obtain ⟨row, memory, checked⟩ := storeAccess_memory pos access
  exact ⟨_, checked, by simp only [writeAt, memory]⟩

end linked

/-- Settles O46: the rows are load-linked and store-conditional of their width. -/
theorem loadLinkedStoreConditional : Obligations.LoadLinkedStoreConditional := by
  unfold Obligations.LoadLinkedStoreConditional
  intro s base rt offset va
  refine ⟨fun p row => ?_, fun p row => ?_⟩
  · obtain ⟨pos, ext, meaning⟩ : 0 < p.2.1 ∧ signExt p.2.1 = p.2.2 ∧
        exec p.1 s = loadLinked p.2.1 base rt offset s := by
      simp only [List.mem_cons, List.not_mem_nil, or_false] at row
      obtain rfl | rfl := row
      · exact ⟨Nat.succ_pos 3, funext (signExt_eq_signExtend (n := 4) (by decide)), (rfl : _ = execLl base rt offset s)⟩
      · exact ⟨Nat.succ_pos 7, funext fun v => (signExt_eq_signExtend (n := 8) le_rfl v).trans (by simp),
          (rfl : _ = execLld base rt offset s)⟩
    rw [meaning, ← ext]
    refine ⟨fun f => loadLinked_of_error, fun v u read => ?_, fun pa access => ?_⟩
    · obtain ⟨a, mapped, result⟩ := loadLinked_of_ok (rt := rt) read
      refine ⟨_, result, rfl, fun written => ?_, fun pa at_pa => ?_⟩
      · rw [gpr_linkTo, gpr_setGpr_self, if_neg written]
      · rw [llAddr_linkTo, Except.ok.inj (mapped.symm.trans at_pa)]
    · obtain ⟨a, mapped, result⟩ := loadLinked_of_ok (rt := rt) (load_memory pos access)
      obtain rfl := Except.ok.inj (mapped.symm.trans access.2.1)
      rw [result]
      refine completes_next ((frame_setGpr s rt _ (by simp)).trans (frame_linkTo a _ rfl (List.mem_singleton_self _)))
        ⟨?_, rfl, llAddr_linkTo a _⟩
      rw [gpr_linkTo, gpr_setGpr_self]
  · obtain ⟨pos, meaning⟩ : 0 < p.2 ∧ exec p.1 s = storeConditional p.2 base rt offset s := by
      simp only [List.mem_cons, List.not_mem_nil, or_false] at row
      obtain rfl | rfl := row
      · exact ⟨Nat.succ_pos 3, (rfl : _ = execSc base rt offset s)⟩
      · exact ⟨Nat.succ_pos 7, (rfl : _ = execScd base rt offset s)⟩
    rw [meaning]
    refine ⟨fun f => storeConditional_of_error, fun a checked => ?_, fun pa wf access => ?_⟩
    · cases linked : s.llbit with
      | true =>
        refine ⟨_, storeConditional_of_linked checked linked, rfl, fun written => ?_⟩
        rw [gpr_setGpr_llbit, if_neg written, if_pos rfl]
      | false =>
        refine ⟨_, storeConditional_of_not_linked checked linked, rfl, fun written => ?_⟩
        rw [gpr_setGpr_llbit, if_neg written, if_neg Bool.false_ne_true]
    · obtain ⟨a, checked, write⟩ := writeAt_memory pos access (s.gpr rt)
      cases linked : s.llbit with
      | true =>
        rw [storeConditional_of_linked checked linked, write]
        have stored := frame_writeBE (c := { gprs := [rt], llbit := true, bytes := (pa, p.2) }) s pa p.2 (s.gpr rt) wf
          rfl
        refine completes_next ((stored.trans (frame_setGpr _ rt _ (by simp))).trans (frame_llbit _ false rfl))
          ⟨rfl, ?_, fun _ k inside => ?_⟩
        · rw [gpr_setGpr_llbit]
          by_cases written : rt = 0#5 <;> simp [written]
        · have range : pa ≤ pa + k ∧ pa + k < pa + p.2 := by omega
          refine (Memory.byte_writeBE pa p.2 (s.gpr rt) wf (pa + k)).trans ?_
          rw [if_pos range, Nat.add_sub_cancel_left, byteBE]
      | false =>
        rw [storeConditional_of_not_linked checked linked]
        refine completes_next ((frame_setGpr s rt _ (by simp)).trans (frame_llbit _ false rfl)) ⟨rfl, ?_, nofun⟩
        rw [gpr_setGpr_llbit]
        simp

/-! ### COP1 loads and stores (R485 to R488) -/

section cop1
variable {n pa : Nat} {base ft : Reg} {offset : Half} {s t u : State} {v : Word} {f : Fault}

/-- R113: the 64-bit value of a register. -/
theorem fpr64_eq (s : State) (r : Reg) : s.fpr64 r = if s.status.getLsbD 26 then s.slot r
    else (s.slot (r + 1#5)).extractLsb' 0 32 ++ (s.slot r).extractLsb' 0 32 := by
  rw [State.fpr64, State.fpr32, State.fpr32, BitVec.setWidth_eq_extractLsb' (by decide),
    BitVec.setWidth_eq_extractLsb' (by decide)]
  rfl

theorem store_of_storeAccess {va : Word} {a : Access} (checked : storeAccess n va s = .ok a) (v : Word) :
    store n va v s = .ok (writeAt n a v s) := by
  simp only [store, checked]

theorem store_of_storeAccess_error {va : Word} (halts : storeAccess n va s = .error f) (v : Word) :
    store n va v s = .error f := by
  simp only [store, halts]

/-- The bytes of the low half, as a store of a word takes them. -/
theorem byte_low_setWidth {p : Nat} (inHalf : p + 8 ≤ 32) (v : Word) :
    ((v.setWidth 32).setWidth 64).extractLsb' p 8 = v.extractLsb' p 8 :=
  (byte_setWidth64 inHalf _).trans (byte_low32 inHalf v)

theorem writesFpr32_load (access : MemoryAccess s 4 (s.effAddr base offset) pa) :
    WritesFpr32 (orFault (load 4 (s.effAddr base offset) s) fun p => .next (p.2.setFpr32 ft (low32 p.1))) s ft
      ((s.mem.readBE pa 4).setWidth 32) := by
  rw [load_memory (by decide) access, orFault_ok]
  exact writesFpr32_next s ft _

theorem writesFpr64_load (access : MemoryAccess s 8 (s.effAddr base offset) pa) :
    WritesFpr64 (orFault (load 8 (s.effAddr base offset) s) fun p => .next (p.2.setFpr64 ft p.1)) s ft
      (s.mem.readBE pa 8) := by
  rw [load_memory (by decide) access, orFault_ok]
  exact writesFpr64_next s ft _

theorem storesBytes_store (wf : s.mem.wf) (pos : 0 < n) (access : MemoryAccess s n (s.effAddr base offset) pa)
    (v : Word) : StoresBytes (orFault (store n (s.effAddr base offset) v s) .next) s pa n v := by
  rw [store_memory _ pos access, orFault_ok]
  exact storesBytes_next wf pa n v

variable (usable : Cop1Usable s)
include usable

theorem exec_lwc1 : exec (.lwc1 base ft offset) s =
    orFault (load 4 (s.effAddr base offset) s) fun p => .next (p.2.setFpr32 ft (low32 p.1)) :=
  withCop1_usable usable _

theorem exec_swc1 : exec (.swc1 base ft offset) s =
    orFault (store 4 (s.effAddr base offset) ((s.fpr32 ft).setWidth 64) s) .next :=
  withCop1_usable usable _

theorem exec_ldc1 : exec (.ldc1 base ft offset) s = needPairs [ft] s
    (orFault (load 8 (s.effAddr base offset) s) fun p => .next (p.2.setFpr64 ft p.1)) :=
  withCop1_usable usable _

theorem exec_sdc1 : exec (.sdc1 base ft offset) s =
    needPairs [ft] s (orFault (store 8 (s.effAddr base offset) (s.fpr64 ft) s) .next) :=
  withCop1_usable usable _

theorem storesBytes_swc1 (wf : s.mem.wf) (access : MemoryAccess s 4 (s.effAddr base offset) pa) :
    StoresBytes (exec (.swc1 base ft offset) s) s pa 4 (s.slot ft) := by
  rw [exec_swc1 usable]
  obtain ⟨t, written, frame, bytes⟩ := storesBytes_store wf (by decide) access ((s.fpr32 ft).setWidth 64)
  exact ⟨t, written, frame, fun k inside => (bytes k inside).trans (byte_low_setWidth (by omega) _)⟩

end cop1

/-- Settles O47: COP1 is usable, so each is its access, the doublewords after the check of the pair. -/
theorem cop1LoadsAndStores : Obligations.Cop1LoadsAndStores := by
  unfold Obligations.Cop1LoadsAndStores
  intro s base ft offset usable va v64
  refine ⟨fun pa access => ⟨?_, fun wf => storesBytes_swc1 usable wf access⟩, ?_⟩
  · rw [exec_lwc1 usable]
    exact writesFpr32_load access
  rw [exec_lwc1 usable, exec_swc1 usable, exec_ldc1 usable, exec_sdc1 usable]
  have loadHalts {n : Nat} {f : Fault} {k : Word × State → Result} (halts : load n va s = .error f) :
      orFault (load n va s) k = .fault f := by rw [halts, orFault_error]
  have loads {n : Nat} {v : Word} {u : State} {g : Word × State → State} (read : load n va s = .ok (v, u)) :
      ∃ t, orFault (load n va s) (fun p => .next (g p)) = .next t := ⟨g (v, u), by rw [read, orFault_ok]⟩
  have storeHalts {n : Nat} {f : Fault} {v : Word} (halts : storeAccess n va s = .error f) :
      orFault (store n va v s) .next = .fault f := by rw [store_of_storeAccess_error halts, orFault_error]
  have stores {n : Nat} {a : Access} {v : Word} (checked : storeAccess n va s = .ok a) :
      ∃ t, orFault (store n va v s) .next = .next t := ⟨_, by rw [store_of_storeAccess checked, orFault_ok]⟩
  refine ⟨fun f => loadHalts, fun v u => loads, fun f => storeHalts, fun a => stores,
    fun odd => ⟨needPairs_odd odd _, needPairs_odd odd _⟩, fun even => ?_⟩
  rw [needPairs_even even, needPairs_even even]
  rw [fpr64_eq]
  exact ⟨fun pa access => ⟨writesFpr64_load access, fun wf => storesBytes_store wf (by decide) access v64⟩,
    fun f => loadHalts, fun v u => loads, fun f => storeHalts, fun a => stores⟩

end Sys2Proof.Machine
end

section
/-! Proofs about the COP1 moves and about the check of register pairs (45_fpu_move_arith.md R552 to R580, 10_state.md
R113, R114). -/

namespace Sys2Proof.Machine

/-- Settles O50: COP1 is usable, so each is its write, the doublewords after the check of the pairs. -/
theorem cop1Moves : Obligations.Cop1Moves := by
  unfold Obligations.Cop1Moves
  intro s rt fs fd usable v64 ctl
  have value : s.fpr64 fs = v64 := fpr64_eq s fs
  have dmfc1 : exec (.dmfc1 rt fs) s = needPairs [fs] s (.next (s.setGpr rt (s.fpr64 fs))) := withCop1_usable usable _
  have dmtc1 : exec (.dmtc1 rt fs) s = needPairs [fs] s (.next (s.setFpr64 fs (s.gpr rt))) := withCop1_usable usable _
  have movD : exec (.movD fs fd) s = needPairs [fs, fd] s (.next (s.setFpr64 fd (s.fpr64 fs))) :=
    withCop1_usable usable _
  have ctc1 : exec (.ctc1 rt fs) s = .next (setFpControl fs (low32 (s.gpr rt)) s) := withCop1_usable usable _
  rw [dmfc1, dmtc1, movD, ctc1, value]
  refine ⟨completes_withCop1 usable (writesGpr_next s rt _), completes_withCop1 usable (writesGpr_next s rt _),
    completes_withCop1 usable (writesFpr32_next s fs _), completes_withCop1 usable (writesFpr32_next s fd _),
    fun fcsr => ?_, fun other => ?_, fun even => ?_, fun odd => ?_, fun even => ?_, fun even odd => ?_⟩
  · rw [setFpControl, if_pos fcsr]
    exact completes_next (frame_fcr31 s _ rfl) rfl
  · rw [setFpControl_other other]
  · rw [needPairs_even even, needPairs_even even]
    exact ⟨writesGpr_next s rt _, writesFpr64_next s fs _⟩
  · exact ⟨needPairs_odd odd _, needPairs_odd odd _, needPairs_odd odd _⟩
  · rw [needPairs_even even]
    exact writesFpr64_next s fd _
  · rw [needPairs_cons even, needPairs_odd odd]

section pairs
variable {s : State} (usable : Cop1Usable s) (paired : s.status.getLsbD 26 = false)
include paired

theorem evenWhenPaired_iff (n : Reg) : EvenWhenPaired s [n] ↔ ¬ n.getLsbD 0 = true := by
  rw [EvenWhenPaired, paired, List.forall_mem_singleton, Bool.not_eq_true]
  exact or_iff_right Bool.false_ne_true

/-- The instruction checks the registers of the list, in its order, before anything else. -/
def ChecksPairs (s : State) (ns : List Reg) (o : Result) : Prop := ∃ r, o = withCop1 s (needPairs ns s r)

variable {a : Reg} {ns : List Reg} {o : Result}

include usable in
theorem ChecksPairs.first (checks : ChecksPairs s (a :: ns) o) (odd : a.getLsbD 0 = true) :
    o = .fault (.oddFprPair a) := by
  obtain ⟨r, rfl⟩ := checks
  rw [withCop1_usable usable, needPairs_odd fun even => (evenWhenPaired_iff paired a).1 even odd]

theorem ChecksPairs.rest (checks : ChecksPairs s (a :: ns) o) (even : ¬ a.getLsbD 0 = true) : ChecksPairs s ns o := by
  obtain ⟨r, rfl⟩ := checks
  exact ⟨r, by rw [needPairs_cons ((evenWhenPaired_iff paired a).2 even)]⟩

end pairs

/-- Settles O55: each row checks its registers in one order, and the first odd one halts. -/
theorem oddPairHalts : Obligations.OddPairHalts := by
  unfold Obligations.OddPairHalts
  intro s ft fs fd usable paired odd
  refine ⟨fun i row => ?_, fun i row => ?_, fun i row => ?_, fun i row => ?_, fun i row => ?_⟩
  · have checks : ChecksPairs s [fs, ft, fd] (exec i s) := by
      simp only [List.mem_cons, List.not_mem_nil, or_false] at row
      obtain rfl | rfl | rfl | rfl := row <;> exact ⟨_, rfl⟩
    exact ⟨checks.first usable paired, fun even => (checks.rest paired even).first usable paired,
      fun even even' => ((checks.rest paired even).rest paired even').first usable paired⟩
  · have checks : ChecksPairs s [fs, fd] (exec i s) := by
      simp only [List.mem_cons, List.not_mem_nil, or_false] at row
      obtain rfl | rfl | rfl | rfl | rfl | rfl | rfl | rfl | rfl | rfl := row <;> exact ⟨_, rfl⟩
    exact ⟨checks.first usable paired, fun even => (checks.rest paired even).first usable paired⟩
  · have checks : ChecksPairs s [fs] (exec i s) := by
      simp only [List.mem_cons, List.not_mem_nil, or_false] at row
      obtain rfl | rfl | rfl | rfl | rfl | rfl | rfl := row <;> exact ⟨_, rfl⟩
    exact checks.first usable paired
  · have checks : ChecksPairs s [fd] (exec i s) := by
      simp only [List.mem_cons, List.not_mem_nil, or_false] at row
      obtain rfl | rfl | rfl | rfl | rfl | rfl | rfl := row <;> exact ⟨_, rfl⟩
    exact checks.first usable paired
  · have checks : ChecksPairs s [fs, ft] (exec i s) := by
      simp only [List.mem_cons, List.not_mem_nil, or_false] at row
      obtain rfl | rfl | rfl | rfl | rfl | rfl | rfl | rfl | rfl | rfl | rfl | rfl | rfl | rfl | rfl | rfl := row <;>
        exact ⟨_, rfl⟩
    exact ⟨checks.first usable paired, fun even => (checks.rest paired even).first usable paired⟩

end Sys2Proof.Machine
end


section
/-! Proofs about the values of the FP operations (45_fpu_move_arith.md R553, R565 to R574, 46_fpu_convert_compare.md
R656): special values, and sums, products and comparisons as those of the numbers. -/

namespace Sys2Proof.Machine

/-! ### NaN operands, infinities and zeros -/

section nan
variable (f : Format) (mode : RoundMode) (v : FpVal)

theorem fpAdd_nan_left : fpAdd mode .nan v = .nan := rfl

theorem fpAdd_nan_right : fpAdd mode v .nan = .nan := by cases v <;> rfl

theorem fpMul_nan_right : fpMul v .nan = .nan := by cases v <;> rfl

theorem fpDiv_nan_right : fpDiv f v .nan = .nan := by cases v <;> rfl

theorem fpCompare_nan_right : fpCompare v .nan = .un := by cases v <;> rfl

variable {v} in
theorem pack_ne_none (number : v ≠ .nan) : pack f mode v ≠ none := by
  cases v with
  | nan => exact absurd rfl number
  | inf neg => nofun
  | fin neg m e => nofun

end nan

/-- An encoding with the exponent all ones and a fraction that is not 0 is a NaN. -/
theorem unpack_nan {f : Format} {b : Nat} (exponent : b / 2 ^ f.fracBits % 2 ^ f.expBits = 2 ^ f.expBits - 1)
    (fraction : b % 2 ^ f.fracBits ≠ 0) : unpack f b = .nan := by
  rw [unpack, if_pos exponent, if_neg fraction]

/-- The fields of an encoding that is put together from them. -/
theorem toNat_fields {e p : Nat} (sign : BitVec 1) (exponent : BitVec e) (fraction : BitVec p) :
    (sign ++ exponent ++ fraction).toNat / 2 ^ p % 2 ^ e = exponent.toNat ∧
      (sign ++ exponent ++ fraction).toNat % 2 ^ p = fraction.toNat := by
  rw [BitVec.toNat_append, BitVec.toNat_append, ← Nat.shiftLeft_add_eq_or_of_lt fraction.isLt,
    ← Nat.shiftLeft_add_eq_or_of_lt exponent.isLt, Nat.shiftLeft_eq, Nat.shiftLeft_eq]
  constructor
  · rw [Nat.add_comm, Nat.add_mul_div_right _ _ (Nat.two_pow_pos p), Nat.div_eq_of_lt fraction.isLt, Nat.zero_add,
      Nat.mul_add_mod_self_right, Nat.mod_eq_of_lt exponent.isLt]
  · rw [Nat.mul_add_mod_self_right, Nat.mod_eq_of_lt fraction.isLt]

theorem toNat_fraction_ne_zero {p : Nat} (pos : 0 < p) (fraction : BitVec p) :
    (if fraction = 0#p then 1#p else fraction).toNat ≠ 0 := by
  split
  · rw [BitVec.toNat_ofNat, Nat.mod_eq_of_lt (Nat.one_lt_two_pow pos.ne')]
    exact Nat.one_ne_zero
  next nonzero => exact fun zero => nonzero (BitVec.eq_of_toNat_eq (by simpa using zero))

theorem f32_nan32 (op : FpOp) (a b : Word) : f32 (nan32 op a b) = .nan := by
  obtain ⟨exponent, fraction⟩ := toNat_fields ((Config.fpNaN32 op a b).extractLsb' 23 1) 0xFF#8
    (if (Config.fpNaN32 op a b).extractLsb' 0 23 = 0#23 then 1#23 else (Config.fpNaN32 op a b).extractLsb' 0 23)
  exact unpack_nan (f := single) exponent (fraction ▸ toNat_fraction_ne_zero (by decide) _)

theorem f64_nan64 (op : FpOp) (a b : Word) : f64 (nan64 op a b) = .nan := by
  obtain ⟨exponent, fraction⟩ := toNat_fields ((Config.fpNaN64 op a b).extractLsb' 52 1) 0x7FF#11
    (if (Config.fpNaN64 op a b).extractLsb' 0 52 = 0#52 then 1#52 else (Config.fpNaN64 op a b).extractLsb' 0 52)
  exact unpack_nan (f := double) exponent (fraction ▸ toNat_fraction_ne_zero (by decide) _)

section special
variable (f : Format) (mode : RoundMode) (a b n : Bool) {m : Nat} (e e' : Int)

theorem fpAdd_inf_opposite : fpAdd mode (.inf a) (.inf (!a)) = .nan := by cases a <;> rfl

theorem fpAdd_inf_same : fpAdd mode (.inf a) (.inf a) = .inf a := if_pos rfl

theorem fpCompare_inf_same : fpCompare (.inf a) (.inf a) = .eq := if_pos rfl

/-- The sign of a zero sum, quotient and root does not depend on the exponent. -/
theorem fpDiv_zero_left (nonzero : m ≠ 0) : ∃ e1, fpDiv f (.fin a 0 e) (.fin n m e') = .fin (a != n) 0 e1 := by
  refine ⟨e - e' - (2 * f.fracBits + 4 : Nat) - 1, ?_⟩
  simp [fpDiv, nonzero, sticky]

theorem fpDiv_by_zero (nonzero : m ≠ 0) : fpDiv f (.fin n m e) (.fin b 0 e') = .inf (n != b) := by
  rw [fpDiv, if_pos rfl, if_neg nonzero]

theorem fpMul_inf_left (nonzero : m ≠ 0) : fpMul (.inf a) (.fin n m e) = .inf (a != n) := if_neg nonzero

theorem fpMul_inf_right (nonzero : m ≠ 0) : fpMul (.fin n m e) (.inf a) = .inf (n != a) := if_neg nonzero

theorem fpSqrt_neg (nonzero : m ≠ 0) : fpSqrt f (.fin true m e) = .nan := by
  rw [fpSqrt, if_neg nonzero, if_pos rfl]

end special

/-- Settles O60: each clause is the branch of the operation that its operands select. -/
theorem specialValues : Obligations.SpecialValues := by
  unfold Obligations.SpecialValues
  refine ⟨fun f mode v => ⟨rfl, fpAdd_nan_right mode v, rfl, fpMul_nan_right v, rfl, fpDiv_nan_right f v, rfl, rfl,
    fpCompare_nan_right v, rfl, pack_ne_none f mode⟩, fun f mode a b n m e e' nonzero => ?_,
    fun f mode a n m e => ⟨rfl, rfl, rfl, ⟨0, rfl⟩, rfl, rfl, rfl, rfl⟩,
    fun op a b => ⟨f32_nan32 op a b, f64_nan64 op a b⟩⟩
  exact ⟨fpAdd_inf_opposite mode a, fpAdd_inf_same mode a, rfl, rfl, fpMul_inf_left a n e nonzero,
    fpMul_inf_right a n e nonzero, rfl, rfl, rfl, fpDiv_by_zero f b n e e' nonzero, fpDiv_zero_left f a n e e' nonzero,
    fpSqrt_neg f e nonzero, rfl, rfl, rfl, rfl, rfl, fpCompare_inf_same a, rfl, rfl⟩

/-! ### The numbers of sums, products and comparisons -/

section numbers

theorem two_zpow_pos (e : Int) : (0 : Rat) < 2 ^ e := zpow_pos two_pos e

theorem two_zpow_toNat {e q : Int} (fits : q ≤ e) : ((2 ^ (e - q).toNat : Int) : Rat) * 2 ^ q = 2 ^ e := by
  rw [Int.cast_pow, Int.cast_ofNat, ← zpow_natCast, Int.toNat_of_nonneg (by omega), ← zpow_add₀ two_ne_zero,
    sub_add_cancel]

theorem finValue_eq_signed (neg : Bool) (m : Nat) (e : Int) :
    finValue neg m e = (signed neg m : Int) * (2 : Rat) ^ e := by
  cases neg <;> simp [finValue, signed]

/-- A number as a multiple of a smaller power of two. -/
theorem finValue_eq_scaled (neg : Bool) (m : Nat) {e q : Int} (fits : q ≤ e) :
    finValue neg m e = (scaled neg m e q : Int) * (2 : Rat) ^ q := by
  rw [finValue_eq_signed, scaled, Int.cast_mul, mul_assoc, two_zpow_toNat fits]

theorem signed_natAbs (t : Int) : signed (decide (t < 0)) t.natAbs = t := by
  by_cases negative : t < 0
  · rw [signed, decide_eq_true negative, if_pos rfl]
    omega
  · rw [signed, decide_eq_false negative, if_neg Bool.false_ne_true]
    omega

theorem finValue_not (neg : Bool) (m : Nat) (e : Int) : finValue (!neg) m e = -finValue neg m e := by
  cases neg <;> simp [finValue]

theorem finValue_zero (neg : Bool) (e : Int) : finValue neg 0 e = 0 := by simp [finValue]

theorem finValue_mul (n1 n2 : Bool) (m1 m2 : Nat) (e1 e2 : Int) :
    finValue (n1 != n2) (m1 * m2) (e1 + e2) = finValue n1 m1 e1 * finValue n2 m2 e2 := by
  simp only [finValue, zpow_add₀ (two_ne_zero' Rat), Nat.cast_mul]
  cases n1 <;> cases n2 <;> simp <;> ring

/-- The exact sum, with the sign that R565 gives a zero. -/
theorem fpAdd_fin (mode : RoundMode) (n1 n2 : Bool) (m1 m2 : Nat) (e1 e2 : Int) :
    ∃ n m e, fpAdd mode (.fin n1 m1 e1) (.fin n2 m2 e2) = .fin n m e ∧
      finValue n m e = finValue n1 m1 e1 + finValue n2 m2 e2 ∧
      (m = 0 → n = if n1 = n2 then n1 else decide (mode = .down)) := by
  have sum : finValue n1 m1 e1 + finValue n2 m2 e2 =
      (scaled n1 m1 e1 (min e1 e2) + scaled n2 m2 e2 (min e1 e2) : Int) * (2 : Rat) ^ min e1 e2 := by
    rw [finValue_eq_scaled n1 m1 (min_le_left e1 e2), finValue_eq_scaled n2 m2 (min_le_right e1 e2), ← add_mul,
      Int.cast_add]
  by_cases zero : scaled n1 m1 e1 (min e1 e2) + scaled n2 m2 e2 (min e1 e2) = 0
  · refine ⟨_, 0, _, if_pos zero, ?_, fun _ => rfl⟩
    rw [sum, zero, Int.cast_zero, zero_mul, finValue_zero]
  · refine ⟨_, _, _, if_neg zero, ?_, fun none => absurd (Int.natAbs_eq_zero.1 none) zero⟩
    rw [sum, finValue_eq_signed, signed_natAbs]

/-- The order of two integers is that of their multiples of a positive number. -/
theorem orderInt_iff {a b : Int} {x y u : Rat} (pos : 0 < u) (left : x = a * u) (right : y = b * u) :
    (orderInt a b = .lt ↔ x < y) ∧ (orderInt a b = .eq ↔ x = y) ∧ (orderInt a b = .gt ↔ y < x) := by
  have less : x < y ↔ a < b := by rw [left, right, mul_lt_mul_iff_left₀ pos, Int.cast_lt]
  have equal : x = y ↔ a = b := by rw [left, right, mul_left_inj' pos.ne', Int.cast_inj]
  have greater : y < x ↔ b < a := by rw [left, right, mul_lt_mul_iff_left₀ pos, Int.cast_lt]
  rw [less, equal, greater, orderInt]
  obtain smaller | rfl | larger := lt_trichotomy a b
  · simp [smaller, smaller.ne, smaller.not_gt]
  · simp
  · simp [larger, larger.ne', larger.not_gt]

end numbers

/-- Settles O59: numbers brought to a common power of two add and compare as the integers before it. -/
theorem sumsAndProductsAreExact : Obligations.SumsAndProductsAreExact := by
  unfold Obligations.SumsAndProductsAreExact
  intro mode n1 n2 m1 m2 e1 e2 x y
  obtain ⟨less, equal, greater⟩ := orderInt_iff (two_zpow_pos (min e1 e2))
    (finValue_eq_scaled n1 m1 (min_le_left e1 e2)) (finValue_eq_scaled n2 m2 (min_le_right e1 e2))
  exact ⟨fpAdd_fin mode n1 n2 m1 m2 e1 e2, ⟨_, _, rfl, finValue_mul n1 n2 m1 m2 e1 e2⟩, less, equal, greater, rfl,
    finValue_not n1 m1 e1⟩

end Sys2Proof.Machine
end


section
/-! Proofs about rounding (46_fpu_convert_compare.md R620). A magnitude lies between two neighbouring multiples of the
last place; which of them the model takes is said once (`takesNeighbour_roundAt`), in terms of how the number compares
with the lower one and with the number half way. Rounding is then correct for every number that compares in the same
way, so the sticky bit of a quotient or a root that is cut off is enough. -/

namespace Sys2Proof.Machine

/-! ### Rounding to a multiple of a power of two -/

/-- Whether a mode takes the upper of the two neighbours of a magnitude: `odd` says that the lower one is odd, `above`
that the magnitude is above it, `half` that it is at least half way, `past` that it is past half way. -/
def RoundsUp (mode : RoundMode) (neg : Bool) (odd above half past : Prop) : Prop :=
  match mode with
  | .nearest => past ∨ half ∧ odd
  | .zero => False
  | .up => neg = false ∧ above
  | .down => neg = true ∧ above

/-- `r` is the neighbour that the mode takes, of `k` and `k + 1`. -/
def TakesNeighbour (mode : RoundMode) (neg : Bool) (above half past : Prop) (k r : Nat) : Prop :=
  RoundsUp mode neg (k % 2 = 1) above half past ∧ r = k + 1 ∨ ¬ RoundsUp mode neg (k % 2 = 1) above half past ∧ r = k

section roundAt
variable (mode : RoundMode) (neg : Bool) (m : Nat)

theorem takesNeighbour_roundShift (d : Nat) : TakesNeighbour mode neg (0 < m % 2 ^ d) (2 ^ d ≤ 2 * (m % 2 ^ d))
    (2 ^ d < 2 * (m % 2 ^ d)) (m / 2 ^ d) (roundShift mode neg m d) := by
  cases mode with
  | nearest =>
    simp only [TakesNeighbour, RoundsUp, roundShift]
    split
    · omega
    · split <;> omega
  | zero => exact .inr ⟨id, rfl⟩
  | up =>
    by_cases up : m % 2 ^ d ≠ 0 ∧ neg = false
    · exact .inl ⟨⟨up.2, Nat.pos_of_ne_zero up.1⟩, if_pos up⟩
    · exact .inr ⟨fun taken => up ⟨taken.2.ne', taken.1⟩, if_neg up⟩
  | down =>
    by_cases up : m % 2 ^ d ≠ 0 ∧ neg = true
    · exact .inl ⟨⟨up.2, Nat.pos_of_ne_zero up.1⟩, if_pos up⟩
    · exact .inr ⟨fun taken => up ⟨taken.2.ne', taken.1⟩, if_neg up⟩

theorem finValue_false (m : Nat) (e : Int) : finValue false m e = m * (2 : Rat) ^ e := by simp [finValue]

/-- A power of two as a multiple of a smaller one. -/
theorem natCast_mul_two_zpow (k : Nat) {e q : Int} (fits : q ≤ e) :
    (k : Rat) * 2 ^ e = (k * 2 ^ (e - q).toNat : Nat) * (2 : Rat) ^ q := by
  rw [← two_zpow_toNat fits]
  push_cast
  ring

/-- The multiple of 2^q at or below m · 2^e. -/
def placeFloor (m : Nat) (e q : Int) : Nat := if q ≤ e then m * 2 ^ (e - q).toNat else m / 2 ^ (q - e).toNat

/-- A number with bits above the last place only: its own floor. -/
theorem finValue_of_le {e q : Int} (fits : q ≤ e) : finValue false m e = placeFloor m e q * (2 : Rat) ^ q := by
  rw [finValue_false, placeFloor, if_pos fits, natCast_mul_two_zpow m fits]

/-- Comparisons with multiples of the last place, when it is above the lowest bit. -/
theorem compare_place {e q : Int} (above : e < q) (k : Nat) :
    ((k : Rat) * 2 ^ q ≤ finValue false m e ↔ k * 2 ^ (q - e).toNat ≤ m) ∧
    ((k : Rat) * 2 ^ q < finValue false m e ↔ k * 2 ^ (q - e).toNat < m) ∧
    ((k + 1 / 2 : Rat) * 2 ^ q ≤ finValue false m e ↔ (2 * k + 1) * 2 ^ (q - e).toNat ≤ 2 * m) ∧
    ((k + 1 / 2 : Rat) * 2 ^ q < finValue false m e ↔ (2 * k + 1) * 2 ^ (q - e).toNat < 2 * m) := by
  have unit : (0 : Rat) < 2 ^ e / 2 := half_pos (two_zpow_pos e)
  have number : finValue false m e = (2 * m : Nat) * ((2 : Rat) ^ e / 2) := by
    rw [finValue_false]
    push_cast
    ring
  have place : (2 : Rat) ^ q = 2 ^ (q - e).toNat * 2 ^ e := by
    rw [← two_zpow_toNat above.le, Int.cast_pow, Int.cast_ofNat]
  have whole : (k : Rat) * 2 ^ q = (2 * (k * 2 ^ (q - e).toNat) : Nat) * ((2 : Rat) ^ e / 2) := by
    rw [place]
    push_cast
    ring
  have half : (k + 1 / 2 : Rat) * 2 ^ q = ((2 * k + 1) * 2 ^ (q - e).toNat : Nat) * ((2 : Rat) ^ e / 2) := by
    rw [place]
    push_cast
    ring
  rw [whole, half, number, mul_le_mul_iff_left₀ unit, mul_lt_mul_iff_left₀ unit, mul_le_mul_iff_left₀ unit,
    mul_lt_mul_iff_left₀ unit, Nat.cast_le, Nat.cast_lt, Nat.cast_le, Nat.cast_lt]
  omega

/-- The magnitude lies between its neighbours. -/
theorem placeFloor_bounds (e q : Int) : (placeFloor m e q : Rat) * 2 ^ q ≤ finValue false m e ∧
    ¬ (placeFloor m e q + 1 : Nat) * (2 : Rat) ^ q ≤ finValue false m e := by
  by_cases fits : q ≤ e
  · rw [finValue_of_le m fits, mul_le_mul_iff_left₀ (two_zpow_pos q), mul_le_mul_iff_left₀ (two_zpow_pos q),
      Nat.cast_le, Nat.cast_le]
    omega
  · rw [(compare_place m (lt_of_not_ge fits) _).1, (compare_place m (lt_of_not_ge fits) _).1, placeFloor, if_neg fits,
      not_le]
    exact ⟨Nat.div_mul_le_self m _, Nat.lt_mul_of_div_lt (Nat.lt_succ_self _) (Nat.two_pow_pos _)⟩

/-- Rounding at the last place takes the lower neighbour or the upper one, as the mode says. -/
theorem takesNeighbour_roundAt (e q : Int) : TakesNeighbour mode neg
    ((placeFloor m e q : Rat) * 2 ^ q < finValue false m e)
    ((placeFloor m e q + 1 / 2 : Rat) * 2 ^ q ≤ finValue false m e)
    ((placeFloor m e q + 1 / 2 : Rat) * 2 ^ q < finValue false m e) (placeFloor m e q) (roundAt mode neg m e q) := by
  by_cases fits : q ≤ e
  · have exact : ¬ (placeFloor m e q : Rat) * 2 ^ q < finValue false m e := by
      rw [finValue_of_le m fits]
      exact lt_irrefl _
    have below : ¬ (placeFloor m e q + 1 / 2 : Rat) * 2 ^ q ≤ finValue false m e := by
      rw [finValue_of_le m fits, mul_le_mul_iff_left₀ (two_zpow_pos q)]
      linarith
    refine .inr ⟨?_, ?_⟩
    · cases mode with
      | nearest => exact fun up => up.elim (fun past => below past.le) fun half => below half.1
      | zero => exact id
      | up => exact fun up => exact up.2
      | down => exact fun up => exact up.2
    · rw [roundAt, if_pos fits, placeFloor, if_pos fits]
  · obtain ⟨-, above, half, past⟩ := compare_place m (lt_of_not_ge fits) (placeFloor m e q)
    rw [above, half, past]
    have shifted := takesNeighbour_roundShift mode neg m (q - e).toNat
    have floor : placeFloor m e q = m / 2 ^ (q - e).toNat := if_neg fits
    have division := Nat.div_add_mod' m (2 ^ (q - e).toNat)
    have double : (2 * (m / 2 ^ (q - e).toNat) + 1) * 2 ^ (q - e).toNat =
        2 * (m / 2 ^ (q - e).toNat * 2 ^ (q - e).toNat) + 2 ^ (q - e).toNat := by ring
    have rest : m / 2 ^ (q - e).toNat * 2 ^ (q - e).toNat < m ↔ 0 < m % 2 ^ (q - e).toNat := by omega
    have restHalf : (2 * (m / 2 ^ (q - e).toNat) + 1) * 2 ^ (q - e).toNat ≤ 2 * m ↔
        2 ^ (q - e).toNat ≤ 2 * (m % 2 ^ (q - e).toNat) := by omega
    have restPast : (2 * (m / 2 ^ (q - e).toNat) + 1) * 2 ^ (q - e).toNat < 2 * m ↔
        2 ^ (q - e).toNat < 2 * (m % 2 ^ (q - e).toNat) := by omega
    rw [roundAt, if_neg fits, floor, rest, restHalf, restPast]
    exact shifted

end roundAt

/-! ### The magnitudes of a format -/

section magnitudes
variable (f : Format)

/-- The magnitudes of a binade are the multiples of its last place, the first one of the next binade too. -/
theorem magValue_place {j k : Nat} (binade : j = 0 ∨ 2 ^ f.fracBits ≤ k) (bound : k ≤ 2 ^ (f.fracBits + 1)) :
    magValue f (j * 2 ^ f.fracBits + k) = k * (2 : Rat) ^ (minExp f + j) := by
  have pos := Nat.two_pow_pos f.fracBits
  have next : 2 ^ (f.fracBits + 1) = 2 ^ f.fracBits + 2 ^ f.fracBits := by ring
  obtain subnormal | normal := Nat.lt_or_ge k (2 ^ f.fracBits)
  · obtain rfl := binade.resolve_right (Nat.not_le_of_lt subnormal)
    rw [Nat.zero_mul, Nat.zero_add, magValue, Nat.div_eq_of_lt subnormal, if_pos rfl, finValue_false, Nat.cast_zero,
      add_zero]
  · obtain ⟨r, rfl⟩ := Nat.exists_eq_add_of_le normal
    have index : j * 2 ^ f.fracBits + (2 ^ f.fracBits + r) = r + (j + 1) * 2 ^ f.fracBits := by ring
    obtain inside | rfl := Nat.lt_or_eq_of_le (show r ≤ 2 ^ f.fracBits by omega)
    · have exponent : (r + (j + 1) * 2 ^ f.fracBits) / 2 ^ f.fracBits = j + 1 := by
        rw [Nat.add_mul_div_right _ _ pos, Nat.div_eq_of_lt inside, Nat.zero_add]
      rw [index, magValue, exponent, if_neg (Nat.succ_ne_zero j), Nat.add_mul_mod_self_right, Nat.mod_eq_of_lt inside,
        finValue_false, Nat.add_sub_cancel]
    · have exponent : (2 ^ f.fracBits + (j + 1) * 2 ^ f.fracBits) / 2 ^ f.fracBits = j + 2 := by
        rw [Nat.add_mul_div_right _ _ pos, Nat.div_self pos, Nat.add_comm]
      rw [index, magValue, exponent, if_neg (Nat.succ_ne_zero _), Nat.add_mul_mod_self_right, Nat.mod_self,
        Nat.add_zero, finValue_false, show j + 2 - 1 = j + 1 from rfl, Nat.cast_succ, ← add_assoc,
        zpow_add_one₀ two_ne_zero]
      push_cast
      ring

theorem magValue_lt_succ (k : Nat) : magValue f k < magValue f (k + 1) := by
  obtain ⟨j, r, rfl, binade, bound⟩ : ∃ j r, k = j * 2 ^ f.fracBits + r ∧ (j = 0 ∨ 2 ^ f.fracBits ≤ r) ∧
      r < 2 ^ (f.fracBits + 1) := by
    have pos := Nat.two_pow_pos f.fracBits
    have next : 2 ^ (f.fracBits + 1) = 2 ^ f.fracBits + 2 ^ f.fracBits := by ring
    have parts := Nat.div_add_mod' k (2 ^ f.fracBits)
    have rest := Nat.mod_lt k pos
    cases exponent : k / 2 ^ f.fracBits with
    | zero => exact ⟨0, k, by omega, .inl rfl, by rw [exponent] at parts; omega⟩
    | succ j =>
      rw [exponent, Nat.succ_mul] at parts
      exact ⟨j, 2 ^ f.fracBits + k % 2 ^ f.fracBits, by omega, .inr (by omega), by omega⟩
  rw [Nat.add_assoc, magValue_place f binade bound.le, magValue_place f (binade.imp_right (by omega)) bound,
    mul_lt_mul_iff_left₀ (two_zpow_pos _), Nat.cast_lt]
  exact Nat.lt_succ_self r

theorem magValue_strictMono : StrictMono (magValue f) := strictMono_nat_of_lt_succ (magValue_lt_succ f)

theorem magValue_lt_midpoint (k : Nat) : magValue f k < midpoint f k := left_lt_add_div_two.2 (magValue_lt_succ f k)

theorem midpoint_lt_magValue (k : Nat) : midpoint f k < magValue f (k + 1) :=
  add_div_two_lt_right.2 (magValue_lt_succ f k)

end magnitudes

/-! ### Which magnitude is the rounded one -/

/-- `le` and `lt` say of every number whether it is at most, and below, one real number. -/
structure Cut (le lt : Rat → Prop) : Prop where
  below {q r : Rat} : q < r → le r → lt q
  weaken {q : Rat} : lt q → le q

/-- The encoding past the largest finite one (R624). -/
def capped (f : Format) (mode : RoundMode) (neg : Bool) (k : Nat) : Nat :=
  if k < infEnc f then k else if overflowToInf mode neg then infEnc f else infEnc f - 1

theorem roundMag_eq_capped (f : Format) (mode : RoundMode) (neg : Bool) (m : Nat) (e : Int) : roundMag f mode neg m e =
    capped f mode neg
      ((lastPlace f m e - minExp f).toNat * 2 ^ f.fracBits + roundAt mode neg m e (lastPlace f m e)) := rfl

section cut
variable {f : Format} {mode : RoundMode} {neg : Bool} {le lt : Rat → Prop} {k r : Nat}

variable (cut : Cut le lt)
include cut

theorem Cut.le_magValue {j : Nat} (at_k : le (magValue f k)) (bound : j ≤ k) : le (magValue f j) := by
  obtain smaller | rfl := Nat.lt_or_eq_of_le bound
  · exact cut.weaken (cut.below (magValue_strictMono f smaller) at_k)
  · exact at_k

theorem Cut.lt_magValue {j : Nat} (at_k : le (magValue f k)) (bound : j < k) : lt (magValue f j) :=
  cut.below (magValue_strictMono f bound) at_k

theorem Cut.not_le_magValue {j : Nat} (past_k : ¬ le (magValue f (k + 1))) (bound : k < j) : ¬ le (magValue f j) :=
  fun at_j => past_k (cut.le_magValue at_j bound)

/-- Half way below a magnitude that is not above the number. -/
theorem Cut.lt_midpoint {j : Nat} (at_k : le (magValue f k)) (bound : j < k) : lt (midpoint f j) :=
  cut.below ((midpoint_lt_magValue f j).trans_le ((magValue_strictMono f).monotone bound)) at_k

/-- Half way above a magnitude that is above the number. -/
theorem Cut.not_le_midpoint {j : Nat} (past_k : ¬ le (magValue f (k + 1))) (bound : k < j) : ¬ le (midpoint f j) :=
  fun at_j => cut.not_le_magValue past_k bound (cut.weaken (cut.below (magValue_lt_midpoint f j) at_j))

/-- The mode takes the lower neighbour: the greatest finite magnitude that is not above the number. -/
theorem Cut.truncates (at_k : le (magValue f k)) (past_k : ¬ le (magValue f (k + 1))) (finite : 0 < infEnc f)
    (keeps : overflowToInf mode neg = false) : capped f mode neg k < infEnc f ∧ le (magValue f (capped f mode neg k)) ∧
      (capped f mode neg k + 1 < infEnc f → ¬ le (magValue f (capped f mode neg k + 1))) := by
  rw [capped, keeps, if_neg Bool.false_ne_true]
  split
  · exact ⟨‹_›, at_k, fun _ => past_k⟩
  · exact ⟨by omega, cut.le_magValue at_k (by omega), fun _ => by omega⟩

/-- The mode takes the upper neighbour unless the number is the lower one: the least magnitude that is not below it. -/
theorem Cut.roundsAway (at_k : le (magValue f k)) (past_k : ¬ le (magValue f (k + 1)))
    (overflows : overflowToInf mode neg = true) (taken : lt (magValue f k) ∧ r = k + 1 ∨ ¬ lt (magValue f k) ∧ r = k) :
    capped f mode neg r ≤ infEnc f ∧ (0 < capped f mode neg r → lt (magValue f (capped f mode neg r - 1))) ∧
      (capped f mode neg r < infEnc f → ¬ lt (magValue f (capped f mode neg r))) := by
  have below {j : Nat} (bound : j < r) : lt (magValue f j) := by
    obtain ⟨above, rfl⟩ | ⟨-, rfl⟩ := taken
    · obtain smaller | rfl := Nat.lt_or_eq_of_le (Nat.le_of_lt_succ bound)
      · exact cut.lt_magValue at_k smaller
      · exact above
    · exact cut.lt_magValue at_k bound
  have reached : ¬ lt (magValue f r) := by
    obtain ⟨-, rfl⟩ | ⟨exact, rfl⟩ := taken
    · exact fun above => past_k (cut.weaken above)
    · exact exact
  rw [capped, overflows, if_pos rfl]
  split
  · exact ⟨Nat.le_of_lt ‹_›, fun pos => below (by omega), fun _ => reached⟩
  · exact ⟨le_rfl, fun pos => below (by omega), fun finite => absurd finite (lt_irrefl _)⟩

/-- To nearest, ties to even: the number is on the magnitude's side of the points half way to its neighbours. -/
theorem Cut.roundsNearest (at_k : le (magValue f k)) (past_k : ¬ le (magValue f (k + 1))) (even : infEnc f % 2 = 0)
    (taken : TakesNeighbour .nearest neg (lt (magValue f k)) (le (midpoint f k)) (lt (midpoint f k)) k r) :
    Rounds f .nearest neg le lt (capped f .nearest neg r) := by
  have above {j : Nat} (bound : j < r) : lt (midpoint f j) ∨ le (midpoint f j) ∧ j % 2 = 1 := by
    obtain ⟨up, rfl⟩ | ⟨-, rfl⟩ := taken
    · obtain smaller | rfl := Nat.lt_or_eq_of_le (Nat.le_of_lt_succ bound)
      · exact .inl (cut.lt_midpoint at_k smaller)
      · exact up
    · exact .inl (cut.lt_midpoint at_k bound)
  have lower {j : Nat} (pos : 0 < j) (bound : j ≤ r) :
      if j % 2 = 0 then le (midpoint f (j - 1)) else lt (midpoint f (j - 1)) := by
    obtain past | ⟨half, odd⟩ := above (show j - 1 < r by omega)
    · split
      · exact cut.weaken past
      · exact past
    · rw [if_pos (by omega)]
      exact half
  have upper : if r % 2 = 0 then ¬ lt (midpoint f r) else ¬ le (midpoint f r) := by
    obtain ⟨-, rfl⟩ | ⟨down, rfl⟩ := taken
    · have outside := cut.not_le_midpoint past_k (Nat.lt_succ_self k)
      split
      · exact fun past => outside (cut.weaken past)
      · exact outside
    · split
      · exact fun past => down (.inl past)
      · exact fun half => down (.inr ⟨half, by omega⟩)
  simp only [Rounds, capped, overflowToInf, if_true]
  split
  · exact ⟨Nat.le_of_lt ‹_›, fun pos => lower pos le_rfl, fun _ => upper⟩
  · refine ⟨le_rfl, fun pos => ?_, fun finite => absurd finite (lt_irrefl _)⟩
    exact (if_pos even).mp (lower pos (by omega))

/-- Rounding is correct when the neighbour that it takes is the one that the number's comparisons call for. -/
theorem Cut.rounds (at_k : le (magValue f k)) (past_k : ¬ le (magValue f (k + 1))) (finite : 0 < infEnc f)
    (even : infEnc f % 2 = 0)
    (taken : TakesNeighbour mode neg (lt (magValue f k)) (le (midpoint f k)) (lt (midpoint f k)) k r) :
    Rounds f mode neg le lt (capped f mode neg r) := by
  cases mode with
  | nearest => exact cut.roundsNearest at_k past_k even taken
  | zero =>
    obtain ⟨never, -⟩ | ⟨-, rfl⟩ := taken
    · exact never.elim
    · exact cut.truncates at_k past_k finite rfl
  | up =>
    cases neg with
    | false => exact cut.roundsAway at_k past_k rfl (by simpa [TakesNeighbour, RoundsUp] using taken)
    | true =>
      obtain ⟨⟨never, -⟩, -⟩ | ⟨-, rfl⟩ := taken
      · cases never
      · exact cut.truncates at_k past_k finite rfl
  | down =>
    cases neg with
    | false =>
      obtain ⟨⟨never, -⟩, -⟩ | ⟨-, rfl⟩ := taken
      · cases never
      · exact cut.truncates at_k past_k finite rfl
    | true => exact cut.roundsAway at_k past_k rfl (by simpa [TakesNeighbour, RoundsUp] using taken)

end cut

/-! ### The rounded magnitude -/

section lastPlace
variable (f : Format) {m : Nat} (nonzero : m ≠ 0) (e : Int)

/-- The number in its binade: the index of the magnitude at or below it. -/
def magIndex (f : Format) (m : Nat) (e : Int) : Nat :=
  (lastPlace f m e - minExp f).toNat * 2 ^ f.fracBits + placeFloor m e (lastPlace f m e)

theorem minExp_add_toNat (m : Nat) : minExp f + (lastPlace f m e - minExp f).toNat = lastPlace f m e := by
  have above : minExp f ≤ lastPlace f m e := le_max_left _ _
  omega

/-- The format keeps fracBits + 1 bits. -/
theorem placeFloor_lt (m : Nat) : placeFloor m e (lastPlace f m e) < 2 ^ (f.fracBits + 1) := by
  have size : m < 2 ^ (m.log2 + 1) := Nat.lt_log2_self
  have last : e + m.log2 - f.fracBits ≤ lastPlace f m e := le_max_right _ _
  unfold placeFloor
  split
  · calc m * 2 ^ (e - lastPlace f m e).toNat
      _ < 2 ^ (m.log2 + 1) * 2 ^ (e - lastPlace f m e).toNat := Nat.mul_lt_mul_of_pos_right size (Nat.two_pow_pos _)
      _ = 2 ^ (m.log2 + 1 + (e - lastPlace f m e).toNat) := (Nat.pow_add ..).symm
      _ ≤ 2 ^ (f.fracBits + 1) := Nat.pow_le_pow_right two_pos (by omega)
  · refine Nat.div_lt_of_lt_mul ?_
    calc m
      _ < 2 ^ (m.log2 + 1) := size
      _ ≤ 2 ^ ((lastPlace f m e - e).toNat + (f.fracBits + 1)) := Nat.pow_le_pow_right two_pos (by omega)
      _ = _ := Nat.pow_add ..

include nonzero

/-- Above the subnormals the top bit is set. -/
theorem le_placeFloor (normal : (lastPlace f m e - minExp f).toNat ≠ 0) :
    2 ^ f.fracBits ≤ placeFloor m e (lastPlace f m e) := by
  have size : 2 ^ m.log2 ≤ m := Nat.log2_self_le nonzero
  have last : lastPlace f m e = e + m.log2 - f.fracBits := by
    unfold lastPlace at normal ⊢
    omega
  rw [last, placeFloor]
  split
  · calc 2 ^ f.fracBits
      _ = 2 ^ m.log2 * 2 ^ (e - (e + m.log2 - f.fracBits)).toNat := by rw [← Nat.pow_add]; congr 1; omega
      _ ≤ m * 2 ^ (e - (e + m.log2 - f.fracBits)).toNat := Nat.mul_le_mul_right _ size
  · rw [Nat.le_div_iff_mul_le (Nat.two_pow_pos _)]
    calc 2 ^ f.fracBits * 2 ^ (e + m.log2 - f.fracBits - e).toNat
      _ = 2 ^ m.log2 := by rw [← Nat.pow_add]; congr 1; omega
      _ ≤ m := size

theorem binade_magIndex : (lastPlace f m e - minExp f).toNat = 0 ∨ 2 ^ f.fracBits ≤ placeFloor m e (lastPlace f m e) :=
  or_iff_not_imp_left.2 (le_placeFloor f nonzero e)

theorem magValue_magIndex :
    magValue f (magIndex f m e) = placeFloor m e (lastPlace f m e) * (2 : Rat) ^ lastPlace f m e := by
  rw [magIndex, magValue_place f (binade_magIndex f nonzero e) (placeFloor_lt f e m).le, minExp_add_toNat]

theorem magValue_magIndex_succ :
    magValue f (magIndex f m e + 1) = (placeFloor m e (lastPlace f m e) + 1 : Nat) * (2 : Rat) ^ lastPlace f m e := by
  rw [magIndex, Nat.add_assoc, magValue_place f ((binade_magIndex f nonzero e).imp_right Nat.le_succ_of_le)
    (placeFloor_lt f e m), minExp_add_toNat]

theorem midpoint_magIndex : midpoint f (magIndex f m e) =
    (placeFloor m e (lastPlace f m e) + 1 / 2 : Rat) * (2 : Rat) ^ lastPlace f m e := by
  rw [midpoint, magValue_magIndex f nonzero, magValue_magIndex_succ f nonzero]
  push_cast
  ring

/-- The model takes the neighbour that the number's comparisons call for. -/
theorem takesNeighbour_roundMag (mode : RoundMode) (neg : Bool) (wide : f.fracBits ≠ 0) : ∃ r,
    roundMag f mode neg m e = capped f mode neg r ∧
    TakesNeighbour mode neg (magValue f (magIndex f m e) < finValue false m e)
      (midpoint f (magIndex f m e) ≤ finValue false m e) (midpoint f (magIndex f m e) < finValue false m e)
      (magIndex f m e) r := by
  refine ⟨_, roundMag_eq_capped f mode neg m e, ?_⟩
  rw [magValue_magIndex f nonzero, midpoint_magIndex f nonzero]
  have taken := takesNeighbour_roundAt mode neg m e (lastPlace f m e)
  have parity : magIndex f m e % 2 = placeFloor m e (lastPlace f m e) % 2 := by
    obtain ⟨p, bits⟩ := Nat.exists_eq_succ_of_ne_zero wide
    rw [magIndex, bits, Nat.pow_succ, ← Nat.mul_assoc, Nat.mul_add_mod_self_right]
  unfold TakesNeighbour at taken ⊢
  rw [parity]
  exact taken.imp (And.imp_right fun up => by rw [up, magIndex, Nat.add_assoc])
    (And.imp_right fun down => by rw [down, magIndex])

end lastPlace

theorem format_facts {f : Format} (known : f ∈ [single, double]) :
    f.fracBits ≠ 0 ∧ 0 < infEnc f ∧ infEnc f % 2 = 0 := by
  simp only [List.mem_cons, List.not_mem_nil, or_false] at known
  obtain rfl | rfl := known <;> decide

theorem cut_rat (x : Rat) : Cut (· ≤ x) (· < x) := ⟨fun smaller at_most => smaller.trans_le at_most, le_of_lt⟩

/-- Settles O56: the number itself is one that compares as it does. -/
theorem roundingIsCorrect : Obligations.RoundingIsCorrect := by
  unfold Obligations.RoundingIsCorrect
  intro f known mode neg m e nonzero
  obtain ⟨wide, finite, even⟩ := format_facts known
  obtain ⟨r, rounded, taken⟩ := takesNeighbour_roundMag f nonzero e mode neg wide
  obtain ⟨at_floor, past_floor⟩ := placeFloor_bounds m e (lastPlace f m e)
  rw [← magValue_magIndex f nonzero] at at_floor
  rw [← magValue_magIndex_succ f nonzero] at past_floor
  rw [rounded]
  exact (cut_rat _).rounds at_floor past_floor finite even taken

/-! ### A result that is cut off, with a sticky bit -/

section sticky
variable {f : Format} {q : Nat} {rest : Bool} {e : Int} {le lt : Rat → Prop}

/-- The points that rounding looks at are multiples of twice the sticky bit, when it lies two places below the last. -/
theorem points_of_sticky {m : Nat} (nonzero : m ≠ 0) (below : e + 2 ≤ lastPlace f m e) :
    (∃ z : Nat, magValue f (magIndex f m e) = z * 2 ^ (e + 1)) ∧
    (∃ z : Nat, magValue f (magIndex f m e + 1) = z * 2 ^ (e + 1)) ∧
    ∃ z : Nat, midpoint f (magIndex f m e) = z * 2 ^ (e + 1) := by
  have place (k : Nat) := natCast_mul_two_zpow k (show e + 1 ≤ lastPlace f m e by omega)
  have halfPlace := natCast_mul_two_zpow (2 * placeFloor m e (lastPlace f m e) + 1)
    (show e + 1 ≤ lastPlace f m e - 1 by omega)
  refine ⟨⟨_, (magValue_magIndex f nonzero e).trans (place _)⟩,
    ⟨_, (magValue_magIndex_succ f nonzero e).trans (place _)⟩,
    _, (midpoint_magIndex f nonzero e).trans (Eq.trans ?_ halfPlace)⟩
  rw [zpow_sub_one₀ two_ne_zero]
  push_cast
  ring

/-- A number that is cut off to `q` multiples of 2^(e + 1), with the sticky bit saying whether there was a rest, rounds
like the sticky number. -/
theorem rounds_sticky (cut : Cut le lt) (known : f ∈ [single, double]) (long : 2 ^ (f.fracBits + 2) ≤ sticky q rest)
    (le_iff : ∀ z : Nat, le (z * 2 ^ (e + 1)) ↔ z ≤ q)
    (lt_iff : ∀ z : Nat, lt (z * 2 ^ (e + 1)) ↔ z < q ∨ z = q ∧ rest = true) (mode : RoundMode) (neg : Bool) :
    Rounds f mode neg le lt (roundMag f mode neg (sticky q rest) e) := by
  obtain ⟨wide, finite, even⟩ := format_facts known
  have nonzero : sticky q rest ≠ 0 := (Nat.lt_of_lt_of_le (Nat.two_pow_pos _) long).ne'
  have number (z : Nat) : ((z : Rat) * 2 ^ (e + 1) ≤ finValue false (sticky q rest) e ↔ le (z * 2 ^ (e + 1))) ∧
      ((z : Rat) * 2 ^ (e + 1) < finValue false (sticky q rest) e ↔ lt (z * 2 ^ (e + 1))) := by
    have double : (z : Rat) * 2 ^ (e + 1) = (2 * z : Nat) * (2 : Rat) ^ e := by
      rw [zpow_add_one₀ two_ne_zero]
      push_cast
      ring
    rw [le_iff, lt_iff, double, finValue_false, mul_le_mul_iff_left₀ (two_zpow_pos e),
      mul_lt_mul_iff_left₀ (two_zpow_pos e), Nat.cast_le, Nat.cast_lt, sticky]
    cases rest with
    | false => simp
    | true =>
      simp
      omega
  have below : e + 2 ≤ lastPlace f (sticky q rest) e := by
    have bits : f.fracBits + 2 ≤ (sticky q rest).log2 := (Nat.le_log2 nonzero).2 long
    have last : e + (sticky q rest).log2 - f.fracBits ≤ lastPlace f (sticky q rest) e := le_max_right _ _
    omega
  obtain ⟨⟨z0, floor⟩, ⟨z1, next⟩, z2, half⟩ := points_of_sticky nonzero below
  obtain ⟨r, rounded, taken⟩ := takesNeighbour_roundMag f nonzero e mode neg wide
  obtain ⟨at_floor, past_floor⟩ := placeFloor_bounds (sticky q rest) e (lastPlace f (sticky q rest) e)
  rw [← magValue_magIndex f nonzero, floor, (number z0).1, ← floor] at at_floor
  rw [← magValue_magIndex_succ f nonzero, next, (number z1).1, ← next] at past_floor
  rw [floor, half, (number z0).2, (number z2).1, (number z2).2, ← floor, ← half] at taken
  rw [rounded]
  exact cut.rounds at_floor past_floor finite even taken

end sticky

/-! ### Quotients and roots -/

/-- The quotient of two magnitudes as that of two integers. -/
theorem finValue_div (m1 m2 k : Nat) (e1 e2 : Int) : finValue false m1 e1 / finValue false m2 e2 =
    ((m1 * 2 ^ k : Nat) / m2 : Rat) * 2 ^ (e1 - e2 - k) := by
  rw [finValue_false, finValue_false, zpow_sub₀ two_ne_zero, zpow_sub₀ two_ne_zero, zpow_natCast]
  have power := pow_ne_zero k (two_ne_zero' Rat)
  push_cast
  field_simp

theorem le_quotient_iff {t m z : Nat} (pos : 0 < m) : (z : Rat) ≤ (t : Rat) / m ↔ z ≤ t / m := by
  rw [le_div_iff₀ (Nat.cast_pos.2 pos), Nat.le_div_iff_mul_le pos, ← Nat.cast_mul, Nat.cast_le]

theorem lt_quotient_iff {t m z : Nat} (pos : 0 < m) :
    (z : Rat) < (t : Rat) / m ↔ z < t / m ∨ z = t / m ∧ (t % m != 0) = true := by
  rw [lt_div_iff₀ (Nat.cast_pos.2 pos), ← Nat.cast_mul, Nat.cast_lt, bne_iff_ne]
  have division := Nat.div_add_mod' t m
  obtain smaller | rfl | larger := lt_trichotomy z (t / m)
  · have step := Nat.mul_le_mul_right m (Nat.succ_le_of_lt smaller)
    rw [Nat.succ_mul] at step
    omega
  · omega
  · have step := Nat.mul_le_mul_right m (Nat.succ_le_of_lt larger)
    have rest := Nat.mod_lt t pos
    rw [Nat.succ_mul] at step
    omega

/-- Settles O57: the quotient is at a multiple of the last bit, or past it, when the integer quotient is. -/
theorem quotientsRoundCorrectly : Obligations.QuotientsRoundCorrectly := by
  unfold Obligations.QuotientsRoundCorrectly
  intro f known mode n1 n2 m1 m2 e1 e2 nonzero1 nonzero2 _ bound2
  have pos2 : 0 < m2 := Nat.pos_of_ne_zero nonzero2
  have long : 2 ^ (f.fracBits + 3) ≤ m1 * 2 ^ (2 * f.fracBits + 4) / m2 := by
    rw [Nat.le_div_iff_mul_le pos2]
    calc 2 ^ (f.fracBits + 3) * m2
      _ ≤ 2 ^ (f.fracBits + 3) * 2 ^ (f.fracBits + 1) := Nat.mul_le_mul_left _ bound2.le
      _ = 1 * 2 ^ (2 * f.fracBits + 4) := by rw [← Nat.pow_add, Nat.one_mul]; congr 1; omega
      _ ≤ m1 * 2 ^ (2 * f.fracBits + 4) := Nat.mul_le_mul_right _ (Nat.pos_of_ne_zero nonzero1)
  have longSticky (rest : Bool) : 2 ^ (f.fracBits + 2) ≤ sticky (m1 * 2 ^ (2 * f.fracBits + 4) / m2) rest := by
    have double : 2 ^ (f.fracBits + 3) = 2 * 2 ^ (f.fracBits + 2) := Nat.pow_succ'
    rw [sticky]
    omega
  refine ⟨_, _, if_neg nonzero2, (Nat.lt_of_lt_of_le (Nat.two_pow_pos _) (longSticky _)).ne',
    rounds_sticky (cut_rat _) known (longSticky _) (fun z => ?_) (fun z => ?_) mode _⟩
  all_goals rw [finValue_div m1 m2 (2 * f.fracBits + 4), sub_add_cancel]
  · rw [mul_le_mul_iff_left₀ (two_zpow_pos _), le_quotient_iff pos2]
  · rw [mul_lt_mul_iff_left₀ (two_zpow_pos _), lt_quotient_iff pos2]

/-- The loop keeps the root between `r` and `r` + 2^bits. -/
theorem isqrtFrom_spec (n bits r : Nat) (lower : r * r ≤ n) (upper : n < (r + 2 ^ bits) * (r + 2 ^ bits)) :
    isqrtFrom n bits r * isqrtFrom n bits r ≤ n ∧ n < (isqrtFrom n bits r + 1) * (isqrtFrom n bits r + 1) := by
  induction bits generalizing r with
  | zero => exact ⟨lower, upper⟩
  | succ bits ih =>
    rw [isqrtFrom]
    split
    · refine ih _ ‹_› ?_
      rwa [Nat.add_assoc, ← Nat.two_mul, ← Nat.pow_succ']
    · exact ih r lower (Nat.lt_of_not_le ‹_›)

theorem isqrt_spec {bits n : Nat} (bound : n < 2 ^ bits * 2 ^ bits) :
    isqrt bits n * isqrt bits n ≤ n ∧ n < (isqrt bits n + 1) * (isqrt bits n + 1) :=
  isqrtFrom_spec n bits 0 (Nat.zero_le n) (by rwa [Nat.zero_add])

/-- The root of a number that is at least 0, as a cut (R553). -/
theorem cut_root (v : Rat) : Cut (fun q => q < 0 ∨ q * q ≤ v) (fun q => q < 0 ∨ q * q < v) where
  below {q r} smaller at_most := by
    by_cases negative : q < 0
    · exact .inl negative
    · have square : q * q < r * r := mul_self_lt_mul_self (le_of_not_gt negative) smaller
      exact .inr (square.trans_le (at_most.resolve_left (by linarith)))
  weaken := Or.imp_right le_of_lt

/-- The operand of the integer root, over an even power of two. -/
theorem finValue_eq_square (m k : Nat) (e : Int) : finValue false m e =
    ((if e % 2 = 0 then m else 2 * m) * 4 ^ k : Nat) * ((2 : Rat) ^ (e / 2 - k) * 2 ^ (e / 2 - k)) := by
  have four : (4 : Rat) ^ k = 2 ^ (k : Int) * 2 ^ (k : Int) := by
    rw [zpow_natCast, ← mul_pow]
    norm_num
  rw [finValue_false, zpow_sub₀ two_ne_zero]
  have power := (zpow_pos (two_pos (α := Rat)) (k : Int)).ne'
  have parity : e = e / 2 + e / 2 ∧ e % 2 = 0 ∨ e = e / 2 + e / 2 + 1 ∧ ¬ e % 2 = 0 := by omega
  obtain ⟨even, zero⟩ | ⟨odd, one⟩ := parity
  · have split : (2 : Rat) ^ e = 2 ^ (e / 2) * 2 ^ (e / 2) := by rw [← zpow_add₀ two_ne_zero, ← even]
    rw [if_pos zero, split, Nat.cast_mul, Nat.cast_pow, Nat.cast_ofNat, four]
    field_simp
  · have split : (2 : Rat) ^ e = 2 ^ (e / 2) * 2 ^ (e / 2) * 2 := by
      rw [← zpow_add₀ two_ne_zero, ← zpow_add_one₀ two_ne_zero, ← odd]
    rw [if_neg one, split, Nat.cast_mul, Nat.cast_pow, Nat.cast_ofNat, four]
    push_cast
    field_simp

section root
variable {t r z : Nat} {u : Rat} (lower : r * r ≤ t) (upper : t < (r + 1) * (r + 1)) (pos : 0 < u)
include lower upper pos

theorem le_root_iff : ((z : Rat) * u < 0 ∨ (z * u) * (z * u) ≤ t * (u * u)) ↔ z ≤ r := by
  have sign : ¬ (z : Rat) * u < 0 := not_lt.2 (mul_nonneg z.cast_nonneg pos.le)
  rw [or_iff_right sign, mul_mul_mul_comm, mul_le_mul_iff_left₀ (mul_pos pos pos), ← Nat.cast_mul, Nat.cast_le]
  constructor
  · exact fun square => Nat.le_of_lt_succ (Nat.mul_self_lt_mul_self_iff.1 (Nat.lt_of_le_of_lt square upper))
  · exact fun smaller => (Nat.mul_self_le_mul_self smaller).trans lower

theorem lt_root_iff : ((z : Rat) * u < 0 ∨ (z * u) * (z * u) < t * (u * u)) ↔ z < r ∨ z = r ∧ (r * r != t) = true := by
  have sign : ¬ (z : Rat) * u < 0 := not_lt.2 (mul_nonneg z.cast_nonneg pos.le)
  rw [or_iff_right sign, mul_mul_mul_comm, mul_lt_mul_iff_left₀ (mul_pos pos pos), ← Nat.cast_mul, Nat.cast_lt,
    bne_iff_ne]
  obtain smaller | rfl | larger := lt_trichotomy z r
  · have square := Nat.mul_self_lt_mul_self smaller
    exact iff_of_true (square.trans_le lower) (.inl smaller)
  · omega
  · have square : (r + 1) * (r + 1) ≤ z * z := Nat.mul_self_le_mul_self (Nat.succ_le_of_lt larger)
    exact iff_of_false (by omega) (by omega)

end root

/-- The operand of the integer root is in the range of its loop, and long enough for the sticky bit. -/
theorem root_operand_bounds {m p : Nat} (nonzero : m ≠ 0) (bound : m < 2 ^ (p + 1)) (e : Int) :
    2 ^ (p + 3) * 2 ^ (p + 3) ≤ (if e % 2 = 0 then m else 2 * m) * 4 ^ (p + 3) ∧
      (if e % 2 = 0 then m else 2 * m) * 4 ^ (p + 3) < 2 ^ (2 * p + 8) * 2 ^ (2 * p + 8) := by
  have square : 4 ^ (p + 3) = 2 ^ (p + 3) * 2 ^ (p + 3) := by rw [← Nat.mul_pow]
  have least : 1 ≤ if e % 2 = 0 then m else 2 * m := by split <;> omega
  have most : (if e % 2 = 0 then m else 2 * m) < 2 ^ (p + 2) := by
    have double : 2 ^ (p + 2) = 2 * 2 ^ (p + 1) := Nat.pow_succ'
    split <;> omega
  constructor
  · rw [square]
    exact Nat.le_mul_of_pos_left _ least
  · calc (if e % 2 = 0 then m else 2 * m) * 4 ^ (p + 3)
      _ < 2 ^ (p + 2) * 4 ^ (p + 3) := Nat.mul_lt_mul_of_pos_right most (Nat.pow_pos (by decide))
      _ = 2 ^ (3 * p + 8) := by rw [square, ← Nat.pow_add, ← Nat.pow_add]; congr 1; omega
      _ ≤ 2 ^ (2 * p + 8 + (2 * p + 8)) := Nat.pow_le_pow_right two_pos (by omega)
      _ = _ := Nat.pow_add ..

/-- Settles O58: the root is at a multiple of the last bit, or past it, when the integer root is. -/
theorem squareRootsRoundCorrectly : Obligations.SquareRootsRoundCorrectly := by
  unfold Obligations.SquareRootsRoundCorrectly
  intro f known mode m e nonzero bound
  obtain ⟨t, operand⟩ : ∃ t, t = (if e % 2 = 0 then m else 2 * m) * 4 ^ (f.fracBits + 3) := ⟨_, rfl⟩
  obtain ⟨least, most⟩ := root_operand_bounds nonzero bound e
  rw [← operand] at least most
  obtain ⟨lower, upper⟩ := isqrt_spec most
  have root : fpSqrt f (.fin false m e) = .fin false (sticky (isqrt (2 * f.fracBits + 8) t)
      (isqrt (2 * f.fracBits + 8) t * isqrt (2 * f.fracBits + 8) t != t)) (e / 2 - (f.fracBits + 3 : Nat) - 1) := by
    rw [operand, fpSqrt, if_neg nonzero, if_neg Bool.false_ne_true]
  have long (rest : Bool) : 2 ^ (f.fracBits + 2) ≤ sticky (isqrt (2 * f.fracBits + 8) t) rest := by
    have large : 2 ^ (f.fracBits + 3) < isqrt (2 * f.fracBits + 8) t + 1 :=
      Nat.mul_self_lt_mul_self_iff.1 (Nat.lt_of_le_of_lt least upper)
    have double : 2 ^ (f.fracBits + 3) = 2 * 2 ^ (f.fracBits + 2) := Nat.pow_succ'
    rw [sticky]
    omega
  refine ⟨_, _, root, (Nat.lt_of_lt_of_le (Nat.two_pow_pos _) (long _)).ne',
    rounds_sticky (cut_root _) known (long _) (fun z => ?_) (fun z => ?_) mode _⟩
  all_goals rw [finValue_eq_square m (f.fracBits + 3), ← operand, sub_add_cancel]
  · exact le_root_iff lower upper (two_zpow_pos _)
  · exact lt_root_iff lower upper (two_zpow_pos _)

end Sys2Proof.Machine
end


section
/-! Proofs about the conversions (46_fpu_convert_compare.md R623, R624, R630 to R655): the number of an encoding, the
rounded integer, then the instructions. -/

namespace Sys2Proof.Machine

/-! ### The number of an encoding -/

section unpack
variable (f : Format) (b : Nat)

theorem signUnit_eq : signUnit f = 2 ^ f.fracBits * 2 ^ f.expBits := by
  rw [signUnit, Nat.pow_add, Nat.mul_comm]

/-- The fields of an encoding, from its magnitude. -/
theorem fields_magnitude : b % signUnit f % 2 ^ f.fracBits = b % 2 ^ f.fracBits ∧
    b % signUnit f / 2 ^ f.fracBits = b / 2 ^ f.fracBits % 2 ^ f.expBits := by
  rw [signUnit_eq]
  exact ⟨Nat.mod_mul_right_mod b _ _, Nat.mod_mul_right_div_self b _ _⟩

/-- The value of an encoding, from its sign and its magnitude. -/
theorem unpack_eq : unpack f b = if b % signUnit f / 2 ^ f.fracBits = 2 ^ f.expBits - 1 then
      (if b % signUnit f % 2 ^ f.fracBits = 0 then .inf (decide (signUnit f ≤ b)) else .nan)
    else if b % signUnit f / 2 ^ f.fracBits = 0 then
      .fin (decide (signUnit f ≤ b)) (b % signUnit f % 2 ^ f.fracBits) (minExp f)
    else .fin (decide (signUnit f ≤ b)) (2 ^ f.fracBits + b % signUnit f % 2 ^ f.fracBits)
      (minExp f + (b % signUnit f / 2 ^ f.fracBits - 1 : Nat)) := by
  obtain ⟨fraction, exponent⟩ := fields_magnitude f b
  rw [fraction, exponent]
  rfl

/-- The magnitudes below infinity are those with an exponent below the largest. -/
theorem lt_infEnc_iff (k : Nat) : k < infEnc f ↔ k / 2 ^ f.fracBits < 2 ^ f.expBits - 1 :=
  (Nat.div_lt_iff_lt_mul (Nat.two_pow_pos _)).symm

variable {b}

theorem unpack_finite (finite : b % signUnit f < infEnc f) : ∃ m e,
    unpack f b = .fin (decide (signUnit f ≤ b)) m e ∧ finValue false m e = magValue f (b % signUnit f) := by
  have exponent := (lt_infEnc_iff f _).1 finite
  rw [unpack_eq, if_neg exponent.ne]
  by_cases subnormal : b % signUnit f / 2 ^ f.fracBits = 0
  · have small : b % signUnit f < 2 ^ f.fracBits := (Nat.div_eq_zero_iff_lt (Nat.two_pow_pos _)).1 subnormal
    exact ⟨_, _, if_pos subnormal, by rw [magValue, if_pos subnormal, Nat.mod_eq_of_lt small]⟩
  · exact ⟨_, _, if_neg subnormal, by rw [magValue, if_neg subnormal]⟩

theorem unpack_infinite (infinite : b % signUnit f = infEnc f) : unpack f b = .inf (decide (signUnit f ≤ b)) := by
  rw [unpack_eq, infinite, infEnc, Nat.mul_div_cancel _ (Nat.two_pow_pos _), if_pos rfl, Nat.mul_mod_left, if_pos rfl]

theorem unpack_past (past : infEnc f < b % signUnit f) : unpack f b = .nan := by
  have bound : b % signUnit f < 2 ^ f.expBits * 2 ^ f.fracBits := by
    rw [Nat.mul_comm, ← signUnit_eq]
    exact Nat.mod_lt _ (Nat.two_pow_pos _)
  have exponent : b % signUnit f / 2 ^ f.fracBits = 2 ^ f.expBits - 1 := by
    have upper := (Nat.div_lt_iff_lt_mul (Nat.two_pow_pos f.fracBits)).2 bound
    have lower := mt (lt_infEnc_iff f _).2 past.not_gt
    omega
  have fraction : b % signUnit f % 2 ^ f.fracBits ≠ 0 := by
    have parts := Nat.div_add_mod' (b % signUnit f) (2 ^ f.fracBits)
    rw [exponent] at parts
    unfold infEnc at past
    omega
  rw [unpack_eq, if_pos exponent, if_neg fraction]

end unpack

/-! ### The rounded integer (R623) -/

section roundToInt
variable (mode : RoundMode) (neg : Bool) {y : Rat} {k r : Nat}

/-- To nearest, ties to even. -/
theorem nearest_of_neighbour (floor : (k : Rat) ≤ y) (next : y < k + 1)
    (taken : TakesNeighbour .nearest neg ((k : Rat) < y) ((k + 1 / 2 : Rat) ≤ y) ((k + 1 / 2 : Rat) < y) k r) :
    2 * y ≤ 2 * r + 1 ∧ 2 * r - 1 ≤ 2 * y ∧ (2 * y = 2 * r + 1 ∨ 2 * y = 2 * r - 1 → r % 2 = 0) := by
  obtain ⟨up, rfl⟩ | ⟨down, rfl⟩ := taken
  · have half : (k + 1 / 2 : Rat) ≤ y := up.elim le_of_lt And.left
    push_cast
    refine ⟨by linarith, by linarith, fun tie => ?_⟩
    obtain past | ⟨-, odd⟩ := up
    · obtain above | below := tie <;> linarith
    · omega
  · have low : ¬ (r + 1 / 2 : Rat) < y := fun past => down (.inl past)
    refine ⟨by linarith, by linarith, fun tie => ?_⟩
    have half : (r + 1 / 2 : Rat) ≤ y := by obtain above | below := tie <;> linarith
    have even : ¬ r % 2 = 1 := fun odd => down (.inr ⟨half, odd⟩)
    omega

/-- The upper neighbour, unless the number is the lower one. -/
theorem ceiling_of_neighbour (floor : (k : Rat) ≤ y) (next : y < k + 1)
    (taken : (k : Rat) < y ∧ r = k + 1 ∨ ¬ (k : Rat) < y ∧ r = k) : y ≤ r ∧ (r : Rat) - 1 < y := by
  obtain ⟨above, rfl⟩ | ⟨exact, rfl⟩ := taken
  · push_cast
    exact ⟨next.le, by linarith⟩
  · exact ⟨le_of_not_gt exact, by linarith⟩

/-- What an integer rounded from ± y is, by the neighbours `k` and `k` + 1 of y. -/
theorem roundsToInt_signed (floor : (k : Rat) ≤ y) (next : y < k + 1)
    (taken : TakesNeighbour mode neg ((k : Rat) < y) ((k + 1 / 2 : Rat) ≤ y) ((k + 1 / 2 : Rat) < y) k r) :
    RoundsToInt mode (if neg then -y else y) (signed neg r) := by
  have plus : ((signed false r : Int) : Rat) = r := by simp [signed]
  have minus : ((signed true r : Int) : Rat) = -r := by simp [signed]
  cases mode with
  | nearest =>
    obtain ⟨upper, lower, ties⟩ := nearest_of_neighbour neg floor next taken
    cases neg with
    | false =>
      simp only [RoundsToInt, plus, Bool.false_eq_true, if_false]
      exact ⟨upper, lower, fun tie => by have even := ties tie; simp only [signed]; omega⟩
    | true =>
      simp only [RoundsToInt, minus, if_true]
      refine ⟨by linarith, by linarith, fun tie => ?_⟩
      have even := ties (tie.symm.imp (fun t => by linarith) (fun t => by linarith))
      simp only [signed]
      omega
  | zero =>
    obtain ⟨never, -⟩ | ⟨-, rfl⟩ := taken
    · exact never.elim
    have pos : (0 : Rat) ≤ r := r.cast_nonneg
    cases neg with
    | false =>
      simp only [RoundsToInt, plus, Bool.false_eq_true, if_false]
      exact ⟨fun _ => ⟨floor, next⟩, fun _ => ⟨by linarith, by linarith⟩⟩
    | true =>
      simp only [RoundsToInt, minus, if_true]
      exact ⟨fun _ => ⟨by linarith, by linarith⟩, fun _ => ⟨by linarith, by linarith⟩⟩
  | up =>
    cases neg with
    | false =>
      simp only [RoundsToInt, plus, Bool.false_eq_true, if_false]
      exact ceiling_of_neighbour floor next (by simpa [TakesNeighbour, RoundsUp] using taken)
    | true =>
      obtain ⟨⟨never, -⟩, -⟩ | ⟨-, rfl⟩ := taken
      · cases never
      simp only [RoundsToInt, minus, if_true]
      exact ⟨by linarith, by linarith⟩
  | down =>
    cases neg with
    | false =>
      obtain ⟨⟨never, -⟩, -⟩ | ⟨-, rfl⟩ := taken
      · cases never
      simp only [RoundsToInt, plus, Bool.false_eq_true, if_false]
      exact ⟨floor, next⟩
    | true =>
      obtain ⟨upper, lower⟩ := ceiling_of_neighbour floor next (by simpa [TakesNeighbour, RoundsUp] using taken)
      simp only [RoundsToInt, minus, if_true]
      exact ⟨by linarith, by linarith⟩

theorem roundsToInt_roundAt (m : Nat) (e : Int) :
    RoundsToInt mode (finValue neg m e) (signed neg (roundAt mode neg m e 0)) := by
  obtain ⟨floor, next⟩ := placeFloor_bounds m e 0
  have taken := takesNeighbour_roundAt mode neg m e 0
  rw [zpow_zero, mul_one] at floor next taken
  rw [mul_one] at taken
  have number : finValue neg m e = if neg then -finValue false m e else finValue false m e := by
    cases neg with
    | false => rfl
    | true => exact finValue_not false m e
  rw [number]
  rw [Nat.cast_succ] at next
  exact roundsToInt_signed mode neg floor (lt_of_not_ge next) taken

end roundToInt

/-! ### Conversions to an integer -/

section toInt
variable {op : FpOp} {x : Word} {mode : RoundMode} {v : FpVal} {r : Int}

theorem int32_of_some (rounded : roundToInt mode v = some r) : int32 op x mode v =
    if -2 ^ 31 ≤ r ∧ r < 2 ^ 31 then BitVec.ofInt 32 r else Config.cvtInvalid32 op x := by
  have range : (-(2 ^ (32 - 1)) ≤ r ∧ r ≤ 2 ^ (32 - 1) - 1) ↔ (-2 ^ 31 ≤ r ∧ r < 2 ^ 31) := by omega
  by_cases fits : -2 ^ 31 ≤ r ∧ r < 2 ^ 31
  · simp only [int32, toInt, rounded, if_pos (range.2 fits), if_pos fits]
  · simp only [int32, toInt, rounded, if_neg (mt range.1 fits), if_neg fits]

theorem int32_of_none (none : roundToInt mode v = none) : int32 op x mode v = Config.cvtInvalid32 op x := by
  simp only [int32, toInt, none]

theorem int64_of_some (rounded : roundToInt mode v = some r) : int64 op x mode v =
    if -2 ^ 63 ≤ r ∧ r < 2 ^ 63 then BitVec.ofInt 64 r else Config.cvtInvalid64 op x := by
  have range : (-(2 ^ (64 - 1)) ≤ r ∧ r ≤ 2 ^ (64 - 1) - 1) ↔ (-2 ^ 63 ≤ r ∧ r < 2 ^ 63) := by omega
  by_cases fits : -2 ^ 63 ≤ r ∧ r < 2 ^ 63
  · simp only [int64, toInt, rounded, if_pos (range.2 fits), if_pos fits]
  · simp only [int64, toInt, rounded, if_neg (mt range.1 fits), if_neg fits]

theorem int64_of_none (none : roundToInt mode v = none) : int64 op x mode v = Config.cvtInvalid64 op x := by
  simp only [int64, toInt, none]

end toInt

section writes
variable {s : State} (usable : Cop1Usable s) (op : FpOp) (mode : RoundMode) (fs fd : Reg)
include usable

theorem writesFpr32_cvtWordS : WritesFpr32 (cvtWordS op mode fs fd s) s fd
    (int32 op ((s.fpr32 fs).setWidth 64) mode (f32 (s.fpr32 fs))) :=
  completes_withCop1 usable (writesFpr32_next s fd _)

theorem writesFpr32_pairs {ns : List Reg} (even : EvenWhenPaired s ns) (v : Word32) :
    WritesFpr32 (withCop1 s (needPairs ns s (.next (s.setFpr32 fd v)))) s fd v := by
  rw [needPairs_even even]
  exact completes_withCop1 usable (writesFpr32_next s fd v)

theorem writesFpr64_pairs {ns : List Reg} (even : EvenWhenPaired s ns) (v : Word) :
    WritesFpr64 (withCop1 s (needPairs ns s (.next (s.setFpr64 fd v)))) s fd v := by
  rw [needPairs_even even]
  exact completes_withCop1 usable (writesFpr64_next s fd v)

theorem writesFpr32_cvtWordD (even : EvenWhenPaired s [fs]) :
    WritesFpr32 (cvtWordD op mode fs fd s) s fd (int32 op (s.fpr64 fs) mode (f64 (s.fpr64 fs))) :=
  writesFpr32_pairs usable fd even _

theorem writesFpr64_cvtLongS (even : EvenWhenPaired s [fd]) : WritesFpr64 (cvtLongS op mode fs fd s) s fd
    (int64 op ((s.fpr32 fs).setWidth 64) mode (f32 (s.fpr32 fs))) :=
  writesFpr64_pairs usable fd even _

theorem writesFpr64_cvtLongD (even : EvenWhenPaired s [fs, fd]) :
    WritesFpr64 (cvtLongD op mode fs fd s) s fd (int64 op (s.fpr64 fs) mode (f64 (s.fpr64 fs))) :=
  writesFpr64_pairs usable fd even _

end writes

/-- Settles O52: each row is a conversion of its width under its mode. -/
theorem fpToInteger : Obligations.FpToInteger := by
  unfold Obligations.FpToInteger
  refine ⟨fun mode neg m e => ⟨_, rfl, roundsToInt_roundAt mode neg m e⟩, fun mode neg => ⟨rfl, rfl⟩, ?_⟩
  intro s fs fd usable m a c toInt32 toInt64
  have value32 (op : FpOp) (x : Word) (mode : RoundMode) (v : FpVal) : int32 op x mode v = toInt32 op x mode v := by
    simp only [toInt32]
    cases rounded : roundToInt mode v with
    | none => exact int32_of_none rounded
    | some r => exact int32_of_some rounded
  have value64 (op : FpOp) (x : Word) (mode : RoundMode) (v : FpVal) : int64 op x mode v = toInt64 op x mode v := by
    simp only [toInt64]
    cases rounded : roundToInt mode v with
    | none => exact int64_of_none rounded
    | some r => exact int64_of_some rounded
  refine ⟨fun p row => ?_, fun even p row => ?_, fun even p row => ?_, fun even p row => ?_⟩
  · obtain ⟨op, mode, meaning, value⟩ : ∃ op mode, exec p.1 s = cvtWordS op mode fs fd s ∧
        p.2 = toInt32 op (a.setWidth 64) mode (f32 a) := by
      simp only [List.mem_cons, List.not_mem_nil, or_false] at row
      obtain rfl | rfl | rfl | rfl | rfl := row <;> exact ⟨_, _, rfl, rfl⟩
    rw [meaning, value, ← value32]
    exact writesFpr32_cvtWordS usable op mode fs fd
  · obtain ⟨op, mode, meaning, value⟩ : ∃ op mode, exec p.1 s = cvtWordD op mode fs fd s ∧
        p.2 = toInt32 op c mode (f64 c) := by
      simp only [List.mem_cons, List.not_mem_nil, or_false] at row
      obtain rfl | rfl | rfl | rfl | rfl := row <;> exact ⟨_, _, rfl, rfl⟩
    rw [meaning, value, ← value32]
    exact writesFpr32_cvtWordD usable op mode fs fd even
  · obtain ⟨op, mode, meaning, value⟩ : ∃ op mode, exec p.1 s = cvtLongS op mode fs fd s ∧
        p.2 = toInt64 op (a.setWidth 64) mode (f32 a) := by
      simp only [List.mem_cons, List.not_mem_nil, or_false] at row
      obtain rfl | rfl | rfl | rfl | rfl := row <;> exact ⟨_, _, rfl, rfl⟩
    rw [meaning, value, ← value64]
    exact writesFpr64_cvtLongS usable op mode fs fd even
  · obtain ⟨op, mode, meaning, value⟩ : ∃ op mode, exec p.1 s = cvtLongD op mode fs fd s ∧
        p.2 = toInt64 op c mode (f64 c) := by
      simp only [List.mem_cons, List.not_mem_nil, or_false] at row
      obtain rfl | rfl | rfl | rfl | rfl := row <;> exact ⟨_, _, rfl, rfl⟩
    rw [meaning, value, ← value64]
    exact writesFpr64_cvtLongD usable op mode fs fd even

/-! ### Conversions to single and double -/

section pack
variable (f : Format) (mode : RoundMode)

theorem pack_nonzero (neg : Bool) {m : Nat} (nonzero : m ≠ 0) (e : Int) :
    pack f mode (.fin neg m e) = some ((if neg then signUnit f else 0) + roundMag f mode neg m e) := by
  rw [pack, if_neg nonzero]

/-- R624: the encoding of an integer; that of 0 is +0. -/
theorem pack_ofInt (i : Int) : (pack f mode (ofInt i)).getD 0 = (if i < 0 then signUnit f else 0) +
    if i = 0 then 0 else roundMag f mode (decide (i < 0)) i.natAbs 0 := by
  simp only [ofInt, pack, Option.getD_some, decide_eq_true_eq, Int.natAbs_eq_zero]

end pack

/-- Settles O53: the encodings by their fields, the instructions by the operand's value or integer. -/
theorem formatConversions : Obligations.FormatConversions := by
  unfold Obligations.FormatConversions
  refine ⟨fun f _ b _ => ⟨unpack_finite f, unpack_infinite f, unpack_past f⟩, fun v w => ⟨rfl, rfl⟩,
    fun f mode neg m e nonzero => ⟨rfl, rfl, pack_nonzero f mode neg nonzero e⟩, ?_⟩
  intro s fs fd usable m a c enc
  have single (i : Int) : singleOfInt m i = BitVec.ofNat 32 (enc single i) :=
    congrArg (BitVec.ofNat 32) (pack_ofInt Machine.single m i)
  have double (i : Int) : doubleOfInt m i = BitVec.ofNat 64 (enc double i) :=
    congrArg (BitVec.ofNat 64) (pack_ofInt Machine.double m i)
  rw [← single, ← single, ← double, ← double]
  exact ⟨completes_withCop1 usable (writesFpr32_next s fd _), fun even => ⟨writesFpr32_pairs usable fd even _,
    writesFpr32_pairs usable fd even _⟩, fun even => ⟨writesFpr64_pairs usable fd even _,
    writesFpr64_pairs usable fd even _⟩, fun even => writesFpr64_pairs usable fd even _⟩

end Sys2Proof.Machine
end

section
/-! Proofs about FP arithmetic (45_fpu_move_arith.md R565 to R580). -/

namespace Sys2Proof.Machine

/-! ### The sign bit (R575, R576, R579, R580) -/

/-- To add the top bit is to flip it: nothing is carried into it, and what it carries out is lost. -/
theorem xor_top_eq_add {w : Nat} (v : BitVec (w + 1)) :
    v ^^^ BitVec.ofNat (w + 1) (2 ^ w) = BitVec.ofNat (w + 1) (v.toNat + 2 ^ w) := by
  rw [BitVec.ofNat_add, BitVec.ofNat_toNat, BitVec.setWidth_eq]
  apply BitVec.eq_of_getLsbD_eq
  intro i hi
  have top : (BitVec.ofNat (w + 1) (2 ^ w)).toNat % 2 ^ i = 0 := by
    rw [BitVec.toNat_ofNat, Nat.mod_eq_of_lt (Nat.pow_lt_pow_succ Nat.one_lt_two)]
    exact Nat.mod_eq_zero_of_dvd (Nat.pow_dvd_pow 2 (Nat.le_of_lt_succ hi))
  have carry : BitVec.carry i v (BitVec.ofNat (w + 1) (2 ^ w)) false = false := by
    rw [BitVec.carry, top]
    exact decide_eq_false (Nat.not_le_of_lt (Nat.mod_lt _ (Nat.two_pow_pos i)))
  rw [BitVec.getLsbD_add hi, carry, Bool.xor_false, BitVec.getLsbD_xor]

theorem and_low_eq_mod {w : Nat} (n : Nat) (v : BitVec w) :
    v &&& BitVec.ofNat w (2 ^ n - 1) = BitVec.ofNat w (v.toNat % 2 ^ n) := by
  apply BitVec.eq_of_getLsbD_eq
  intro i hi
  rw [BitVec.getLsbD_and, BitVec.getLsbD_ofNat, BitVec.getLsbD_ofNat, Nat.testBit_two_pow_sub_one,
    Nat.testBit_mod_two_pow, decide_eq_true hi, Bool.true_and, Bool.true_and, Bool.and_comm]
  rfl

theorem signS_eq (op : FpOp) {g : Word32 → Word32} {v w : Word32} (value : g v = w) :
    signS op g v = if f32 v = .nan then nan32 op (v.setWidth 64) 0#64 else w := by
  simp only [signS, isNan32, beq_iff_eq, value]

theorem signD_eq (op : FpOp) {g : Word → Word} {v w : Word} (value : g v = w) :
    signD op g v = if f64 v = .nan then nan64 op v 0#64 else w := by
  simp only [signD, isNan64, beq_iff_eq, value]

/-- Settles O51: each row writes the operation's value, encoded; the sign operations are arithmetic on the encoding. -/
theorem fpArithmetic : Obligations.FpArithmetic := by
  unfold Obligations.FpArithmetic
  refine ⟨⟨rfl, rfl, rfl, rfl⟩, ?_⟩
  intro s ft fs fd usable m a b c d put32 put64
  refine ⟨fun p row => ?_, fun even p row => ?_, fun even p row => ?_⟩
  · have write {v w : Word32} (same : v = w) :
        withCop1 s (.next (s.setFpr32 fd v)) = withCop1 s (.next (s.setFpr32 fd w)) := by rw [same]
    have meaning : exec p.1 s = withCop1 s (.next (s.setFpr32 fd p.2)) := by
      simp only [List.mem_cons, List.not_mem_nil, or_false] at row
      obtain rfl | rfl | rfl | rfl | rfl | rfl | rfl := row
      iterate 5 rfl
      · exact write (signS_eq .absS (and_low_eq_mod 31 a))
      · exact write (signS_eq .negS (xor_top_eq_add (w := 31) a))
    rw [meaning]
    exact completes_withCop1 usable (writesFpr32_next s fd _)
  · have meaning : exec p.1 s = withCop1 s (needPairs [fs, ft, fd] s (.next (s.setFpr64 fd p.2))) := by
      simp only [List.mem_cons, List.not_mem_nil, or_false] at row
      obtain rfl | rfl | rfl | rfl := row <;> rfl
    rw [meaning]
    exact writesFpr64_pairs usable fd even _
  · have write {v w : Word} (same : v = w) : withCop1 s (needPairs [fs, fd] s (.next (s.setFpr64 fd v))) =
        withCop1 s (needPairs [fs, fd] s (.next (s.setFpr64 fd w))) := by rw [same]
    have meaning : exec p.1 s = withCop1 s (needPairs [fs, fd] s (.next (s.setFpr64 fd p.2))) := by
      simp only [List.mem_cons, List.not_mem_nil, or_false] at row
      obtain rfl | rfl | rfl := row
      · rfl
      · exact write (signD_eq .absD (and_low_eq_mod 63 c))
      · exact write (signD_eq .negD (xor_top_eq_add (w := 63) c))
    rw [meaning]
    exact writesFpr64_pairs usable fd even _

end Sys2Proof.Machine
end
